-- ==== Sys2Proof/Word.lean ====
section
/-! DEFINITION. The word types of the core: the 32-bit host data word, the command byte and the beat wires. -/

namespace Sys2Proof

/-- A host data word: every host access moves exactly 32 bits (20_memory.md R64). -/
abbrev Word := BitVec 32

/-- A host command byte (30_encoding.md R80). -/
abbrev CommandByte := BitVec 8

/-- The sample port's wires. A beat is a word of 2 × SAMPLE_W bits with SAMPLE_W ≤ 16 (30_encoding.md R82,
00_scope.md R7), so 32 wires hold it; the wires from 2 × SAMPLE_W up do not exist on an instance with a smaller
SAMPLE_W. -/
abbrev BeatWord := BitVec 32

end Sys2Proof
end

