-- ==== Sys2Proof/Config.lean ====
section
/-! DEFINITION. What one instance of the hardware fixes: the build-time parameters and the fixed constants. -/

namespace Sys2Proof

/-- Build-time parameters, fixed per instance of the hardware (00_scope.md R7). The spec leaves both OPEN and lets a
model take them as an argument; here they are plain data that a state carries and no operation writes
(DESIGN CHOICE, log 3), so a statement about every state is a statement about every instance. -/
structure Params where
  /-- SAMPLE_W: the width in bits of each of the I and Q components, two's complement. -/
  sampleW : Nat
  /-- WIN_MAX: the largest baseline window the energy detector supports. -/
  winMax : Nat
  deriving DecidableEq, Repr

/-- The legal values of the build-time parameters (00_scope.md R7). -/
abbrev Params.Legal (p : Params) : Prop :=
  (1 ≤ p.sampleW ∧ p.sampleW ≤ 16) ∧ (1 ≤ p.winMax ∧ p.winMax ≤ 65535)

/-- The reference values of 00_scope.md R7, which the vectors of 95_test_vectors.md use. -/
def Params.reference : Params := { sampleW := 8, winMax := 64 }

/-- DUR_MAX: pulse durations saturate here (00_scope.md R8). -/
abbrev durMax : Nat := 65535

/-- PRE_MAX: the longest preamble (00_scope.md R8). -/
abbrev preMax : Nat := 32

/-- CK_W_MAX: the widest checksum (00_scope.md R8). -/
abbrev ckWMax : Nat := 16

end Sys2Proof
end

