-- ==== Sys2Proof/Syntax.lean ====
section
/-! DEFINITION. The 33 operations of the core (30_encoding.md R87), one constructor per row of spec/opcode_table.json,
and what stands on the ports when an operation arrives. -/

namespace Sys2Proof

/-- The operations (30_encoding.md R87): one SAMPLE beat, and a read and a write of each of the sixteen host registers
(10_state.md R23). A write carries its data word. -/
inductive Instr where
  /-- `smp i, q`: one SAMPLE beat (40_sample_path.md R100). -/
  | smp (i q : Int)
  /-- RD_CTRL (44_host_ops.md R202). -/
  | rdCtrl
  /-- WR_CTRL (44_host_ops.md R201). -/
  | wrCtrl (v : Word)
  /-- RD_STATUS (44_host_ops.md R203). -/
  | rdStatus
  /-- WR_STATUS (44_host_ops.md R204). -/
  | wrStatus (v : Word)
  /-- RD_ED_CFG (44_host_ops.md R206). -/
  | rdEdCfg
  /-- WR_ED_CFG (44_host_ops.md R207). -/
  | wrEdCfg (v : Word)
  /-- RD_PT_CFG (44_host_ops.md R208). -/
  | rdPtCfg
  /-- WR_PT_CFG (44_host_ops.md R209). -/
  | wrPtCfg (v : Word)
  /-- RD_BR_NOM (44_host_ops.md R210). -/
  | rdBrNom
  /-- WR_BR_NOM (44_host_ops.md R211). -/
  | wrBrNom (v : Word)
  /-- RD_BR_CFG (44_host_ops.md R212). -/
  | rdBrCfg
  /-- WR_BR_CFG (44_host_ops.md R213). -/
  | wrBrCfg (v : Word)
  /-- RD_PRE_PAT (44_host_ops.md R214). -/
  | rdPrePat
  /-- WR_PRE_PAT (44_host_ops.md R215). -/
  | wrPrePat (v : Word)
  /-- RD_CK_CFG (44_host_ops.md R216). -/
  | rdCkCfg
  /-- WR_CK_CFG (44_host_ops.md R217). -/
  | wrCkCfg (v : Word)
  /-- RD_CK_POLY (44_host_ops.md R218). -/
  | rdCkPoly
  /-- WR_CK_POLY (44_host_ops.md R219). -/
  | wrCkPoly (v : Word)
  /-- RD_CK_XOR (44_host_ops.md R220). -/
  | rdCkXor
  /-- WR_CK_XOR (44_host_ops.md R221). -/
  | wrCkXor (v : Word)
  /-- RD_OUT_FRAME (44_host_ops.md R222). -/
  | rdOutFrame
  /-- WR_OUT_FRAME (44_host_ops.md R223). -/
  | wrOutFrame (v : Word)
  /-- RD_OUT_AUX (44_host_ops.md R224). -/
  | rdOutAux
  /-- WR_OUT_AUX (44_host_ops.md R225). -/
  | wrOutAux (v : Word)
  /-- RD_CNT_OK (44_host_ops.md R226). -/
  | rdCntOk
  /-- WR_CNT_OK (44_host_ops.md R227). -/
  | wrCntOk (v : Word)
  /-- RD_CNT_CKFAIL (44_host_ops.md R228). -/
  | rdCntCkFail
  /-- WR_CNT_CKFAIL (44_host_ops.md R229). -/
  | wrCntCkFail (v : Word)
  /-- RD_CNT_FRMERR (44_host_ops.md R230). -/
  | rdCntFrmErr
  /-- WR_CNT_FRMERR (44_host_ops.md R231). -/
  | wrCntFrmErr (v : Word)
  /-- RD_CNT_OVWR (44_host_ops.md R232). -/
  | rdCntOvwr
  /-- WR_CNT_OVWR (44_host_ops.md R233). -/
  | wrCntOvwr (v : Word)
  deriving DecidableEq, Repr

/-- One operation as it stands on its port, not yet decoded. The two formats arrive on two ports, so a decoder never
has to tell them apart (30_encoding.md R83). -/
inductive PortWord where
  /-- Format H (30_encoding.md R80): a command byte and a data word. -/
  | host (cmd : CommandByte) (data : Word)
  /-- Format S (30_encoding.md R82): one beat. -/
  | beat (b : BeatWord)
  deriving DecidableEq, Repr

/-- One host access on the host port (30_encoding.md R80). -/
structure HostAccess where
  cmd : CommandByte
  data : Word
  deriving DecidableEq, Repr

/-- What the agents do in one clock (20_memory.md R69): assert the reset pin, or at most one host access and at most
one SAMPLE beat. A reset together with an access or a beat has no form here (DESIGN CHOICE, log 12). -/
inductive ClockInput where
  /-- The hard-reset pin is asserted (70_reset_and_hazards.md R260). -/
  | reset
  /-- At most one host access and at most one beat, the host access first (20_memory.md R69). -/
  | clock (host : Option HostAccess) (beat : Option BeatWord)
  deriving DecidableEq, Repr

end Sys2Proof
end

