-- ==== Sys2Proof/WellFormed.lean ====
section
/-! DEFINITION. When an operation's operands are ones the port can carry (30_encoding.md R82). -/

namespace Sys2Proof

/-- The range of a sample component: a two's complement number of SAMPLE_W bits (30_encoding.md R82). -/
def componentInRange (p : Params) (x : Int) : Bool :=
  decide (-(2 ^ (p.sampleW - 1) : Int) ≤ x) && decide (x ≤ (2 ^ (p.sampleW - 1) : Int) - 1)

/-- An operation is well formed on an instance with parameters `p`. The only operands that can be out of range are
the two components of a sample; a data word is any 32 bits (30_encoding.md R80, R88). -/
def Instr.wellFormed (p : Params) : Instr → Bool
  | .smp i q => componentInRange p i && componentInRange p q
  | .rdCtrl | .wrCtrl _ | .rdStatus | .wrStatus _ => true
  | .rdEdCfg | .wrEdCfg _ | .rdPtCfg | .wrPtCfg _ | .rdBrNom | .wrBrNom _ | .rdBrCfg | .wrBrCfg _ => true
  | .rdPrePat | .wrPrePat _ | .rdCkCfg | .wrCkCfg _ | .rdCkPoly | .wrCkPoly _ | .rdCkXor | .wrCkXor _ => true
  | .rdOutFrame | .wrOutFrame _ | .rdOutAux | .wrOutAux _ => true
  | .rdCntOk | .wrCntOk _ | .rdCntCkFail | .wrCntCkFail _ => true
  | .rdCntFrmErr | .wrCntFrmErr _ | .rdCntOvwr | .wrCntOvwr _ => true

end Sys2Proof
end

