-- ==== Sys2Proof/Decode.lean ====
section
/-! DEFINITION. The decoder, total on everything that can stand on a port, and after it the encoder, both written from
the encoding tables of 30_encoding.md (R80 to R87). -/

namespace Sys2Proof

/-- What the decoder answers: an operation, or a reserved command byte by name (30_encoding.md R81, R85). -/
inductive Decoded where
  | op (i : Instr)
  /-- A command byte with c[6:4] ≠ 000 and WE = 0: not an operation; it returns 0 and changes nothing
  (30_encoding.md R85). -/
  | reservedRead
  /-- A command byte with c[6:4] ≠ 000 and WE = 1: not an operation; it changes nothing (30_encoding.md R85). -/
  | reservedWrite
  deriving DecidableEq, Repr

/-- The operation of an answer, none where the decoder rejected the command. -/
def Decoded.toOption : Decoded → Option Instr
  | .op i => some i
  | .reservedRead => none
  | .reservedWrite => none

/-- The signed number in the `width` bits of `b` from bit `lo` up (`sext`, 00_scope.md R11). -/
def signedField (b : BeatWord) (lo width : Nat) : Int :=
  (b.extractLsb' lo width).toInt

/-- Decode of format S (30_encoding.md R82): I in the upper half of the beat, Q in the lower. The wires above
2 × SAMPLE_W do not exist and are not looked at (log 9). -/
def decodeBeat (p : Params) (b : BeatWord) : Instr :=
  .smp (signedField b p.sampleW p.sampleW) (signedField b 0 p.sampleW)

/-- Decode of format H, command by command (30_encoding.md R87); every other byte is reserved (R85). A read ignores the
host's data word (R80). -/
def decodeHost (c : CommandByte) (d : Word) : Decoded :=
  match c.toNat with
  | 0x00 => .op .rdCtrl
  | 0x80 => .op (.wrCtrl d)
  | 0x01 => .op .rdStatus
  | 0x81 => .op (.wrStatus d)
  | 0x02 => .op .rdEdCfg
  | 0x82 => .op (.wrEdCfg d)
  | 0x03 => .op .rdPtCfg
  | 0x83 => .op (.wrPtCfg d)
  | 0x04 => .op .rdBrNom
  | 0x84 => .op (.wrBrNom d)
  | 0x05 => .op .rdBrCfg
  | 0x85 => .op (.wrBrCfg d)
  | 0x06 => .op .rdPrePat
  | 0x86 => .op (.wrPrePat d)
  | 0x07 => .op .rdCkCfg
  | 0x87 => .op (.wrCkCfg d)
  | 0x08 => .op .rdCkPoly
  | 0x88 => .op (.wrCkPoly d)
  | 0x09 => .op .rdCkXor
  | 0x89 => .op (.wrCkXor d)
  | 0x0A => .op .rdOutFrame
  | 0x8A => .op (.wrOutFrame d)
  | 0x0B => .op .rdOutAux
  | 0x8B => .op (.wrOutAux d)
  | 0x0C => .op .rdCntOk
  | 0x8C => .op (.wrCntOk d)
  | 0x0D => .op .rdCntCkFail
  | 0x8D => .op (.wrCntCkFail d)
  | 0x0E => .op .rdCntFrmErr
  | 0x8E => .op (.wrCntFrmErr d)
  | 0x0F => .op .rdCntOvwr
  | 0x8F => .op (.wrCntOvwr d)
  | _ => if c.getLsbD 7 then .reservedWrite else .reservedRead

/-- Decode of whatever stands on a port. -/
def decode (p : Params) : PortWord → Decoded
  | .host c d => decodeHost c d
  | .beat b => .op (decodeBeat p b)

/-- Format S of the sample `(i, q)` (30_encoding.md R82). -/
def encodeBeat (p : Params) (i q : Int) : BeatWord :=
  (BitVec.ofInt p.sampleW i ++ BitVec.ofInt p.sampleW q).setWidth 32

/-- The encoder (30_encoding.md R82, R87). A read's data word, which the core ignores, is written as 0 (log 15). -/
def encode (p : Params) : Instr → PortWord
  | .smp i q => .beat (encodeBeat p i q)
  | .rdCtrl => .host 0x00#8 0
  | .wrCtrl v => .host 0x80#8 v
  | .rdStatus => .host 0x01#8 0
  | .wrStatus v => .host 0x81#8 v
  | .rdEdCfg => .host 0x02#8 0
  | .wrEdCfg v => .host 0x82#8 v
  | .rdPtCfg => .host 0x03#8 0
  | .wrPtCfg v => .host 0x83#8 v
  | .rdBrNom => .host 0x04#8 0
  | .wrBrNom v => .host 0x84#8 v
  | .rdBrCfg => .host 0x05#8 0
  | .wrBrCfg v => .host 0x85#8 v
  | .rdPrePat => .host 0x06#8 0
  | .wrPrePat v => .host 0x86#8 v
  | .rdCkCfg => .host 0x07#8 0
  | .wrCkCfg v => .host 0x87#8 v
  | .rdCkPoly => .host 0x08#8 0
  | .wrCkPoly v => .host 0x88#8 v
  | .rdCkXor => .host 0x09#8 0
  | .wrCkXor v => .host 0x89#8 v
  | .rdOutFrame => .host 0x0A#8 0
  | .wrOutFrame v => .host 0x8A#8 v
  | .rdOutAux => .host 0x0B#8 0
  | .wrOutAux v => .host 0x8B#8 v
  | .rdCntOk => .host 0x0C#8 0
  | .wrCntOk v => .host 0x8C#8 v
  | .rdCntCkFail => .host 0x0D#8 0
  | .wrCntCkFail v => .host 0x8D#8 v
  | .rdCntFrmErr => .host 0x0E#8 0
  | .wrCntFrmErr v => .host 0x8E#8 v
  | .rdCntOvwr => .host 0x0F#8 0
  | .wrCntOvwr v => .host 0x8F#8 v

/-- A table word laid out on its port (DESIGN CHOICE, log 13): the table's 16-bit row is the beat at the reference
SAMPLE_W; any other row is a command byte in bits 7:0 with the data word above it, bits above `nbits` being 0. No
operation is shorter than a command byte or longer than a command byte and a data word (30_encoding.md R83). -/
def tablePortWord (nbits w : Nat) : Option PortWord :=
  if nbits = 16 then some (.beat (BitVec.ofNat 32 (w % 2 ^ 16)))
  else if 8 ≤ nbits ∧ nbits ≤ 40 then some (.host (BitVec.ofNat 8 w) (BitVec.ofNat 32 (w % 2 ^ nbits / 2 ^ 8)))
  else none

/-- What the decoder reads from a word of spec/opcode_table.json, at the table's reference SAMPLE_W. -/
def decodeTableWord (nbits w : Nat) : Option Instr :=
  match tablePortWord nbits w with
  | some pw => (decode Params.reference pw).toOption
  | none => none

end Sys2Proof
end

