-- ==== Sys2Proof/Machine/State.lean ====
section
/-! DEFINITION. Every piece of state of 10_state.md as plain data, the model's own input and output fields, the reasons
a step can stop (none does), and the state after reset. -/

namespace Sys2Proof.Machine

/-- The configuration registers, field by field (10_state.md R26 to R33). Reserved bits read 0 and drop writes (R23), so
they are not stored. -/
structure CfgRegs where
  /-- ED_CFG[15:0], UQ8.8. -/
  thrFactor : BitVec 16
  /-- ED_CFG[31:16]. -/
  edWin : BitVec 16
  /-- PT_CFG[15:0]. -/
  minPulse : BitVec 16
  /-- BR_NOM[15:0]. -/
  shortNom : BitVec 16
  /-- BR_NOM[31:16]. -/
  longNom : BitVec 16
  /-- BR_CFG[7:0], UQ0.8. -/
  tol : BitVec 8
  /-- BR_CFG[8]. -/
  shortBit : Bool
  /-- BR_CFG[21:16]. -/
  preLen : BitVec 6
  /-- PRE_PAT[31:0]. -/
  prePat : BitVec 32
  /-- CK_CFG[4:0]. -/
  ckW : BitVec 5
  /-- CK_POLY[15:0]. -/
  ckPoly : BitVec 16
  /-- CK_POLY[31:16]. -/
  ckInit : BitVec 16
  /-- CK_XOR[15:0]. -/
  ckXorout : BitVec 16
  deriving DecidableEq, Repr

/-- The energy detector's state (10_state.md R40, R41). -/
structure EnergyDetector where
  /-- The powers of the last accepted samples, newest first. -/
  hist : List Nat
  /-- The carrier decision of the last accepted beat. -/
  carrier : Bool
  deriving DecidableEq, Repr

/-- The pulse timer's state (10_state.md R42). -/
structure PulseTimer where
  started : Bool
  level : Bool
  count : BitVec 16
  glitch : BitVec 16
  deriving DecidableEq, Repr

/-- The states of the bit recoverer (10_state.md R43). FRAME_READY exists only inside a beat (42_bit_recoverer.md
R150). -/
inductive BrState where
  | idle
  | sync
  | receiving
  | frameReady
  deriving DecidableEq, Repr

/-- The bit recoverer's state (10_state.md R43). -/
structure BitRecoverer where
  st : BrState
  /-- Preamble elements matched so far. -/
  k : BitVec 6
  /-- Bits collected. -/
  nbits : BitVec 6
  /-- The bits collected, first received most significant. -/
  buf : BitVec 48
  deriving DecidableEq, Repr

/-- The result register (10_state.md R34, R35, R44). -/
structure ResultReg where
  valid : Bool
  id : BitVec 24
  st : BitVec 8
  ck : BitVec 16
  deriving DecidableEq, Repr

/-- The event counters, each modulo 2^32 (10_state.md R36 to R39). -/
structure Counters where
  ok : BitVec 32
  ckFail : BitVec 32
  frmErr : BitVec 32
  ovwr : BitVec 32
  deriving DecidableEq, Repr

/-- The core and what stands at its ports. -/
structure State where
  /-- The instance's build-time parameters (00_scope.md R7); no operation writes them (log 3). -/
  params : Params
  cfg : CfgRegs
  /-- CTRL.ENABLE (10_state.md R24). -/
  enable : Bool
  /-- CTRL.IRQ_EN (10_state.md R24). -/
  irqEn : Bool
  /-- STATUS.CFG_ERR, sticky (10_state.md R25). -/
  cfgErr : Bool
  ed : EnergyDetector
  pt : PulseTimer
  br : BitRecoverer
  out : ResultReg
  cnt : Counters
  /-- The ghost sample index `t`, which no rule reads (10_state.md R21, log 5). -/
  sampleIndex : Nat
  /-- What the agents will do, clock by clock, the next clock first: the model's own field (log 1). -/
  inputs : List ClockInput
  /-- The `rdata` words host reads have returned, newest first: the model's own field (log 2). -/
  readLog : List Word
  deriving DecidableEq, Repr

/-- The machine never stops with a fault: "no operation … can fail, stall or be refused by the core"
(60_exceptions.md R240). No constructor, so no step can answer a fault. -/
inductive Fault where
  deriving DecidableEq, Repr

/-- Reasons a step is refused. No arm of `exec` raises one (60_exceptions.md R240). -/
inductive Refusal where
  /-- Raised by an arm of `exec` whose operation has no meaning yet (safe: the machine stops). No arm is one. -/
  | notModelled (mnemonic : String)
  deriving DecidableEq, Repr

/-- The configuration registers after a hard reset: every one reads 0 (10_state.md R53). -/
def CfgRegs.reset : CfgRegs :=
  { thrFactor := 0, edWin := 0, minPulse := 0, shortNom := 0, longNom := 0, tol := 0, shortBit := false, preLen := 0,
    prePat := 0, ckW := 0, ckPoly := 0, ckInit := 0, ckXorout := 0 }

/-- The detector after a restart or reset (10_state.md R40, R41). -/
def EnergyDetector.reset : EnergyDetector := { hist := [], carrier := false }

/-- The pulse timer after a restart or reset (10_state.md R42). -/
def PulseTimer.reset : PulseTimer := { started := false, level := false, count := 0, glitch := 0 }

/-- The bit recoverer after a restart or reset (10_state.md R43). -/
def BitRecoverer.reset : BitRecoverer := { st := .idle, k := 0, nbits := 0, buf := 0 }

/-- The result register after a reset (10_state.md R44). -/
def ResultReg.reset : ResultReg := { valid := false, id := 0, st := 0, ck := 0 }

/-- The counters after a reset (10_state.md R36 to R39). -/
def Counters.reset : Counters := { ok := 0, ckFail := 0, frmErr := 0, ovwr := 0 }

/-- The state right after a hard reset of an instance with parameters `p`: every piece of state of 10_state.md is 0,
IDLE or empty (R53, 70_reset_and_hazards.md R260); nothing stands at the ports (log 1, log 2). -/
def State.resetOf (p : Params) : State :=
  { params := p, cfg := CfgRegs.reset, enable := false, irqEn := false, cfgErr := false, ed := EnergyDetector.reset,
    pt := PulseTimer.reset, br := BitRecoverer.reset, out := ResultReg.reset, cnt := Counters.reset, sampleIndex := 0,
    inputs := [], readLog := [] }

/-- The machine right after reset, at the spec's reference parameters (log 3). -/
def State.reset : State := State.resetOf Params.reference

end Sys2Proof.Machine
end

