-- ==== Sys2Proof/Machine/Operands.lean ====
section
/-! DEFINITION. The register fields: how a written word is cut into fields (30_encoding.md R84), how a read word is put
together (R84, R86), and the values derived from the configuration (10_state.md R47, 42_bit_recoverer.md R141). -/

namespace Sys2Proof.Machine

/-- `v[lo+width−1 : lo]` (00_scope.md R11). -/
def field (v : Word) (lo width : Nat) : BitVec width := v.extractLsb' lo width

/-- One bit as a one-bit field. -/
def bit (b : Bool) : BitVec 1 := BitVec.ofBool b

/-- The write mask of a configuration register (30_encoding.md R84); no other register has a stored field. -/
def wmask : BitVec 4 → Word
  | 2 => 0xFFFFFFFF
  | 3 => 0x0000FFFF
  | 4 => 0xFFFFFFFF
  | 5 => 0x003F01FF
  | 6 => 0xFFFFFFFF
  | 7 => 0x0000001F
  | 8 => 0xFFFFFFFF
  | 9 => 0x0000FFFF
  | _ => 0

/-- ED_CFG ← v (44_host_ops.md R207). -/
def CfgRegs.setEdCfg (v : Word) (c : CfgRegs) : CfgRegs :=
  { c with thrFactor := field v 0 16, edWin := field v 16 16 }

/-- PT_CFG ← v (44_host_ops.md R209). -/
def CfgRegs.setPtCfg (v : Word) (c : CfgRegs) : CfgRegs :=
  { c with minPulse := field v 0 16 }

/-- BR_NOM ← v (44_host_ops.md R211). -/
def CfgRegs.setBrNom (v : Word) (c : CfgRegs) : CfgRegs :=
  { c with shortNom := field v 0 16, longNom := field v 16 16 }

/-- BR_CFG ← v (44_host_ops.md R213). -/
def CfgRegs.setBrCfg (v : Word) (c : CfgRegs) : CfgRegs :=
  { c with tol := field v 0 8, shortBit := v.getLsbD 8, preLen := field v 16 6 }

/-- PRE_PAT ← v (44_host_ops.md R215). -/
def CfgRegs.setPrePat (v : Word) (c : CfgRegs) : CfgRegs :=
  { c with prePat := v }

/-- CK_CFG ← v (44_host_ops.md R217). -/
def CfgRegs.setCkCfg (v : Word) (c : CfgRegs) : CfgRegs :=
  { c with ckW := field v 0 5 }

/-- CK_POLY ← v (44_host_ops.md R219). -/
def CfgRegs.setCkPoly (v : Word) (c : CfgRegs) : CfgRegs :=
  { c with ckPoly := field v 0 16, ckInit := field v 16 16 }

/-- CK_XOR ← v (44_host_ops.md R221). -/
def CfgRegs.setCkXor (v : Word) (c : CfgRegs) : CfgRegs :=
  { c with ckXorout := field v 0 16 }

/-- ED_CFG as read (44_host_ops.md R206). -/
def CfgRegs.edCfg (c : CfgRegs) : Word := c.edWin ++ c.thrFactor

/-- PT_CFG as read (44_host_ops.md R208). -/
def CfgRegs.ptCfg (c : CfgRegs) : Word := 0#16 ++ c.minPulse

/-- BR_NOM as read (44_host_ops.md R210). -/
def CfgRegs.brNom (c : CfgRegs) : Word := c.longNom ++ c.shortNom

/-- BR_CFG as read (44_host_ops.md R212). -/
def CfgRegs.brCfg (c : CfgRegs) : Word := 0#10 ++ c.preLen ++ 0#7 ++ bit c.shortBit ++ c.tol

/-- CK_CFG as read (44_host_ops.md R216). -/
def CfgRegs.ckCfg (c : CfgRegs) : Word := 0#27 ++ c.ckW

/-- CK_POLY as read (44_host_ops.md R218). -/
def CfgRegs.ckPolyReg (c : CfgRegs) : Word := c.ckInit ++ c.ckPoly

/-- CK_XOR as read (44_host_ops.md R220). -/
def CfgRegs.ckXorReg (c : CfgRegs) : Word := 0#16 ++ c.ckXorout

/-- The code of a bit recoverer state in STATUS.BR_STATE (10_state.md R25, R43). -/
def BrState.code : BrState → BitVec 2
  | .idle => 0
  | .sync => 1
  | .receiving => 2
  | .frameReady => 3

/-- CTRL as read: `{28'b0, IRQ_EN, 0, 0, ENABLE}` (44_host_ops.md R202). -/
def State.ctrl (s : State) : Word := 0#28 ++ bit s.irqEn ++ 0#1 ++ 0#1 ++ bit s.enable

/-- STATUS as read (44_host_ops.md R203). -/
def State.status (s : State) : Word :=
  0#10 ++ s.br.nbits ++ 0#2 ++ s.br.k ++ 0#2 ++ bit (s.pt.started && s.pt.level) ++ bit s.ed.carrier ++ bit s.cfgErr ++
    bit s.out.valid ++ s.br.st.code

/-- OUT_FRAME as read: `{OUT_ID, OUT_ST}` (44_host_ops.md R222). -/
def State.outFrame (s : State) : Word := s.out.id ++ s.out.st

/-- OUT_AUX as read: `{OUT_VALID, 15'b0, OUT_CK}` (44_host_ops.md R224). -/
def State.outAux (s : State) : Word := bit s.out.valid ++ 0#15 ++ s.out.ck

/-- The word a read of register `idx` returns (10_state.md R23, 30_encoding.md R84, R86). -/
def State.regRead (idx : BitVec 4) (s : State) : Word :=
  match idx.toNat with
  | 0 => s.ctrl
  | 1 => s.status
  | 2 => s.cfg.edCfg
  | 3 => s.cfg.ptCfg
  | 4 => s.cfg.brNom
  | 5 => s.cfg.brCfg
  | 6 => s.cfg.prePat
  | 7 => s.cfg.ckCfg
  | 8 => s.cfg.ckPolyReg
  | 9 => s.cfg.ckXorReg
  | 10 => s.outFrame
  | 11 => s.outAux
  | 12 => s.cnt.ok
  | 13 => s.cnt.ckFail
  | 14 => s.cnt.frmErr
  | _ => s.cnt.ovwr

/-- FRAME_LEN = 32 + CK_W (10_state.md R47). -/
def CfgRegs.frameLen (c : CfgRegs) : Nat := 32 + c.ckW.toNat

/-- CKMASK = 2^CK_W − 1, on the 16 bits a checksum has at most (10_state.md R47, 00_scope.md R8). -/
def CfgRegs.ckMask (c : CfgRegs) : BitVec 16 := BitVec.ofNat 16 (2 ^ c.ckW.toNat - 1)

/-- The least duration in the window of nominal duration `n`: `ceil(n × (256 − TOL) / 256)` (10_state.md R45). -/
def CfgRegs.winLo (c : CfgRegs) (n : BitVec 16) : Nat := (n.toNat * (256 - c.tol.toNat) + 255) / 256

/-- The greatest duration in the window of nominal duration `n`: `floor(n × (256 + TOL) / 256)` (10_state.md R45). -/
def CfgRegs.winHi (c : CfgRegs) (n : BitVec 16) : Nat := n.toNat * (256 + c.tol.toNat) / 256

/-- `InWin(n, d)`: `|d − n| × 256 ≤ n × TOL` on integers (42_bit_recoverer.md R141). -/
def CfgRegs.inWin (c : CfgRegs) (n d : BitVec 16) : Bool :=
  decide (((d.toNat : Int) - (n.toNat : Int)).natAbs * 256 ≤ n.toNat * c.tol.toNat)

end Sys2Proof.Machine
end

