-- ==== Sys2Proof/Machine/Flags.lean ====
section
/-! DEFINITION. The conditions behind the core's flags: CfgValid (10_state.md R45), which decides ENABLE and CFG_ERR, the
`irq` output (R52), and the recording of events in the counters (60_exceptions.md R241). -/

namespace Sys2Proof.Machine

/-- V1: 1 ≤ ED_WIN ≤ WIN_MAX. -/
def CfgRegs.v1 (p : Params) (c : CfgRegs) : Bool := decide (1 ≤ c.edWin.toNat) && decide (c.edWin.toNat ≤ p.winMax)

/-- V2: MIN_PULSE ≥ 1. -/
def CfgRegs.v2 (c : CfgRegs) : Bool := decide (1 ≤ c.minPulse.toNat)

/-- V3: 1 ≤ SHORT_NOM < LONG_NOM. -/
def CfgRegs.v3 (c : CfgRegs) : Bool :=
  decide (1 ≤ c.shortNom.toNat) && decide (c.shortNom.toNat < c.longNom.toNat)

/-- V4: hi(SHORT_NOM) < lo(LONG_NOM), the two windows are disjoint. -/
def CfgRegs.v4 (c : CfgRegs) : Bool := decide (c.winHi c.shortNom < c.winLo c.longNom)

/-- V5: 1 ≤ PRE_LEN ≤ 32. -/
def CfgRegs.v5 (c : CfgRegs) : Bool := decide (1 ≤ c.preLen.toNat) && decide (c.preLen.toNat ≤ preMax)

/-- V6: 1 ≤ CK_W ≤ 16. -/
def CfgRegs.v6 (c : CfgRegs) : Bool := decide (1 ≤ c.ckW.toNat) && decide (c.ckW.toNat ≤ ckWMax)

/-- V7: CK_POLY[CK_W−1:0] ≠ 0. -/
def CfgRegs.v7 (c : CfgRegs) : Bool := decide (c.ckPoly &&& c.ckMask ≠ 0)

/-- CfgValid: the conjunction of V1 to V7 (10_state.md R45). -/
def CfgRegs.valid (p : Params) (c : CfgRegs) : Bool :=
  c.v1 p && c.v2 && c.v3 && c.v4 && c.v5 && c.v6 && c.v7

/-- `irq = IRQ_EN ∧ OUT_VALID`, a level (10_state.md R52, 60_exceptions.md R243). -/
def State.irq (s : State) : Bool := s.irqEn && s.out.valid

/-- EV1: a framing error is counted, modulo 2^32 (60_exceptions.md R241). -/
def Counters.countFrmErr (c : Counters) : Counters := { c with frmErr := c.frmErr + 1 }

/-- EV2: a checksum failure is counted, modulo 2^32 (60_exceptions.md R241). -/
def Counters.countCkFail (c : Counters) : Counters := { c with ckFail := c.ckFail + 1 }

/-- EV7, and EV4 with it where the accepted frame overwrites an unread one (60_exceptions.md R241). -/
def Counters.countOk (overwrite : Bool) (c : Counters) : Counters :=
  { c with ok := c.ok + 1, ovwr := if overwrite then c.ovwr + 1 else c.ovwr }

end Sys2Proof.Machine
end

