-- ==== Sys2Proof/Machine/Ops.lean ====
section
/-! DEFINITION. The named operations over the core's state that several instructions share. The core takes no exception
and has no return from one (60_exceptions.md R240), so none stands here. -/

namespace Sys2Proof.Machine

/-- `Restart()`: the datapath returns to its reset values, nothing else changes (10_state.md R50). -/
def restart (s : State) : State :=
  { s with ed := EnergyDetector.reset, pt := PulseTimer.reset, br := BitRecoverer.reset }

/-- The counter clear of CTRL.CLR_CNT (44_host_ops.md R201). -/
def clearCounters (s : State) : State := { s with cnt := Counters.reset }

/-- `SoftReset()`: Restart, and the result and event state is cleared; the configuration registers, ENABLE and IRQ_EN
stay (10_state.md R51). -/
def softReset (s : State) : State :=
  clearCounters { restart s with out := ResultReg.reset, cfgErr := false }

/-- The hard reset: every piece of state of 10_state.md at its reset value (70_reset_and_hazards.md R260). The build
parameters and what stands outside the core, the pending inputs and the host's record of what it read, stay (DESIGN
CHOICE, log 10). -/
def hardReset (s : State) : State :=
  { State.resetOf s.params with inputs := s.inputs, readLog := s.readLog }

/-- A host read returns `v` on the read-data port (30_encoding.md R80). -/
def respond (v : Word) (s : State) : State := { s with readLog := v :: s.readLog }

/-- `WR_CFG`: a configuration write changes its register while disabled; while enabled it is ignored and sets CFG_ERR
(44_host_ops.md R205). -/
def writeCfg (set : CfgRegs → CfgRegs) (s : State) : State :=
  if s.enable then { s with cfgErr := true } else { s with cfg := set s.cfg }

/-- The enable part of a write of CTRL with bit 0 = `e` (44_host_ops.md R201). -/
def setEnable (e : Bool) (s : State) : State :=
  if !e then { s with enable := false }
  else if s.enable then s
  else if s.cfg.valid s.params then restart { s with enable := true }
  else { s with cfgErr := true }

/-- A reserved read returns 0 and changes no state of the core (30_encoding.md R85). -/
def reservedRead (s : State) : State := respond 0 s

/-- A reserved write changes no state (30_encoding.md R85). -/
def reservedWrite (s : State) : State := s

end Sys2Proof.Machine
end

