-- ==== Sys2Proof/Machine/HostConfig.lean ====
section
/-! DEFINITION. The operations on the eight configuration registers (44_host_ops.md R205 to R221). -/

namespace Sys2Proof.Machine

/-- RD_ED_CFG (44_host_ops.md R206). -/
def execRdEdCfg (s : State) : Host.Outcome State Fault Refusal := .next (respond s.cfg.edCfg s)

/-- WR_ED_CFG (44_host_ops.md R207). -/
def execWrEdCfg (v : Word) (s : State) : Host.Outcome State Fault Refusal := .next (writeCfg (CfgRegs.setEdCfg v) s)

/-- RD_PT_CFG (44_host_ops.md R208). -/
def execRdPtCfg (s : State) : Host.Outcome State Fault Refusal := .next (respond s.cfg.ptCfg s)

/-- WR_PT_CFG (44_host_ops.md R209). -/
def execWrPtCfg (v : Word) (s : State) : Host.Outcome State Fault Refusal := .next (writeCfg (CfgRegs.setPtCfg v) s)

/-- RD_BR_NOM (44_host_ops.md R210). -/
def execRdBrNom (s : State) : Host.Outcome State Fault Refusal := .next (respond s.cfg.brNom s)

/-- WR_BR_NOM (44_host_ops.md R211). -/
def execWrBrNom (v : Word) (s : State) : Host.Outcome State Fault Refusal := .next (writeCfg (CfgRegs.setBrNom v) s)

/-- RD_BR_CFG (44_host_ops.md R212). -/
def execRdBrCfg (s : State) : Host.Outcome State Fault Refusal := .next (respond s.cfg.brCfg s)

/-- WR_BR_CFG (44_host_ops.md R213). -/
def execWrBrCfg (v : Word) (s : State) : Host.Outcome State Fault Refusal := .next (writeCfg (CfgRegs.setBrCfg v) s)

/-- RD_PRE_PAT (44_host_ops.md R214). -/
def execRdPrePat (s : State) : Host.Outcome State Fault Refusal := .next (respond s.cfg.prePat s)

/-- WR_PRE_PAT (44_host_ops.md R215). -/
def execWrPrePat (v : Word) (s : State) : Host.Outcome State Fault Refusal := .next (writeCfg (CfgRegs.setPrePat v) s)

/-- RD_CK_CFG (44_host_ops.md R216). -/
def execRdCkCfg (s : State) : Host.Outcome State Fault Refusal := .next (respond s.cfg.ckCfg s)

/-- WR_CK_CFG (44_host_ops.md R217). -/
def execWrCkCfg (v : Word) (s : State) : Host.Outcome State Fault Refusal := .next (writeCfg (CfgRegs.setCkCfg v) s)

/-- RD_CK_POLY (44_host_ops.md R218). -/
def execRdCkPoly (s : State) : Host.Outcome State Fault Refusal := .next (respond s.cfg.ckPolyReg s)

/-- WR_CK_POLY (44_host_ops.md R219). -/
def execWrCkPoly (v : Word) (s : State) : Host.Outcome State Fault Refusal := .next (writeCfg (CfgRegs.setCkPoly v) s)

/-- RD_CK_XOR (44_host_ops.md R220). -/
def execRdCkXor (s : State) : Host.Outcome State Fault Refusal := .next (respond s.cfg.ckXorReg s)

/-- WR_CK_XOR (44_host_ops.md R221). -/
def execWrCkXor (v : Word) (s : State) : Host.Outcome State Fault Refusal := .next (writeCfg (CfgRegs.setCkXor v) s)

end Sys2Proof.Machine
end

