-- ==== Sys2Proof/Machine/HostControl.lean ====
section
/-! DEFINITION. The operations on CTRL and STATUS (44_host_ops.md R201 to R204). -/

namespace Sys2Proof.Machine

/-- RD_CTRL (44_host_ops.md R202). -/
def execRdCtrl (s : State) : Host.Outcome State Fault Refusal := .next (respond s.ctrl s)

/-- CTRL.SOFT_RESET of a written word (44_host_ops.md R201). -/
def softResetIf (b : Bool) (s : State) : State := if b then softReset s else s

/-- CTRL.CLR_CNT of a written word (44_host_ops.md R201). -/
def clearCountersIf (b : Bool) (s : State) : State := if b then clearCounters s else s

/-- CTRL.IRQ_EN of a written word (44_host_ops.md R201). -/
def setIrqEn (b : Bool) (s : State) : State := { s with irqEn := b }

/-- WR_CTRL: SoftReset, counter clear, IRQ_EN, then enable or disable, in this order (44_host_ops.md R201,
60_exceptions.md R244). -/
def execWrCtrl (v : Word) (s : State) : Host.Outcome State Fault Refusal :=
  .next (setEnable (v.getLsbD 0) (setIrqEn (v.getLsbD 3) (clearCountersIf (v.getLsbD 2) (softResetIf (v.getLsbD 1) s))))

/-- RD_STATUS (44_host_ops.md R203). -/
def execRdStatus (s : State) : Host.Outcome State Fault Refusal := .next (respond s.status s)

/-- WR_STATUS: bit 3 clears CFG_ERR, every other bit is ignored (44_host_ops.md R204). -/
def execWrStatus (v : Word) (s : State) : Host.Outcome State Fault Refusal :=
  .next (if v.getLsbD 3 then { s with cfgErr := false } else s)

end Sys2Proof.Machine
end

