-- ==== Sys2Proof/Machine/HostResult.lean ====
section
/-! DEFINITION. The operations on the result register and the event counters (44_host_ops.md R222 to R233). -/

namespace Sys2Proof.Machine

/-- The result register marked consumed (44_host_ops.md R222). -/
def consumeFrame (s : State) : State := { s with out := { s.out with valid := false } }

/-- RD_OUT_FRAME: returns the last accepted frame and clears OUT_VALID (44_host_ops.md R222). -/
def execRdOutFrame (s : State) : Host.Outcome State Fault Refusal := .next (consumeFrame (respond s.outFrame s))

/-- WR_OUT_FRAME has no effect (44_host_ops.md R223). -/
def execWrOutFrame (_v : Word) (s : State) : Host.Outcome State Fault Refusal := .next s

/-- RD_OUT_AUX (44_host_ops.md R224). -/
def execRdOutAux (s : State) : Host.Outcome State Fault Refusal := .next (respond s.outAux s)

/-- WR_OUT_AUX has no effect (44_host_ops.md R225). -/
def execWrOutAux (_v : Word) (s : State) : Host.Outcome State Fault Refusal := .next s

/-- RD_CNT_OK (44_host_ops.md R226). -/
def execRdCntOk (s : State) : Host.Outcome State Fault Refusal := .next (respond s.cnt.ok s)

/-- WR_CNT_OK has no effect (44_host_ops.md R227). -/
def execWrCntOk (_v : Word) (s : State) : Host.Outcome State Fault Refusal := .next s

/-- RD_CNT_CKFAIL (44_host_ops.md R228). -/
def execRdCntCkFail (s : State) : Host.Outcome State Fault Refusal := .next (respond s.cnt.ckFail s)

/-- WR_CNT_CKFAIL has no effect (44_host_ops.md R229). -/
def execWrCntCkFail (_v : Word) (s : State) : Host.Outcome State Fault Refusal := .next s

/-- RD_CNT_FRMERR (44_host_ops.md R230). -/
def execRdCntFrmErr (s : State) : Host.Outcome State Fault Refusal := .next (respond s.cnt.frmErr s)

/-- WR_CNT_FRMERR has no effect (44_host_ops.md R231). -/
def execWrCntFrmErr (_v : Word) (s : State) : Host.Outcome State Fault Refusal := .next s

/-- RD_CNT_OVWR (44_host_ops.md R232). -/
def execRdCntOvwr (s : State) : Host.Outcome State Fault Refusal := .next (respond s.cnt.ovwr s)

/-- WR_CNT_OVWR has no effect (44_host_ops.md R233). -/
def execWrCntOvwr (_v : Word) (s : State) : Host.Outcome State Fault Refusal := .next s

end Sys2Proof.Machine
end

