-- ==== Sys2Proof/Machine/FrameValidator.lean ====
section
/-! DEFINITION. The frame validator (43_frame_validator.md R170 to R175). -/

namespace Sys2Proof.Machine

/-- One bit through the checksum register of width CK_W (43_frame_validator.md R172). -/
def crcStep (c : CfgRegs) (reg : BitVec 16) (b : Bool) : BitVec 16 :=
  if (reg.getLsbD (c.ckW.toNat - 1)).xor b then ((reg <<< 1) &&& c.ckMask) ^^^ (c.ckPoly &&& c.ckMask)
  else (reg <<< 1) &&& c.ckMask

/-- The low `n` bits of `data` through the register, the most significant of them first. -/
def crcBits (c : CfgRegs) {len : Nat} (data : BitVec len) : Nat → BitVec 16 → BitVec 16
  | 0, reg => reg
  | n + 1, reg => crcBits c data n (crcStep c reg (data.getLsbD n))

/-- `Crc(data, len)`: width CK_W, most significant bit first, not reflected (43_frame_validator.md R172). -/
def crc (c : CfgRegs) {len : Nat} (data : BitVec len) : BitVec 16 :=
  crcBits c data len (c.ckInit &&& c.ckMask) ^^^ (c.ckXorout &&& c.ckMask)

/-- The 32 data bits of a complete buffer, `buf[FRAME_LEN−1 : CK_W]` (43_frame_validator.md R170). -/
def frameData (c : CfgRegs) (buf : BitVec 48) : Word := (buf >>> c.ckW.toNat).setWidth 32

/-- The received checksum of a complete buffer, `buf[CK_W−1 : 0]`, zero-extended (43_frame_validator.md R170). -/
def frameCk (c : CfgRegs) (buf : BitVec 48) : BitVec 16 := buf.setWidth 16 &&& c.ckMask

/-- `Accept`: the result register takes the frame, whatever it held (43_frame_validator.md R174). -/
def acceptFrame (id : BitVec 24) (st : BitVec 8) (ck : BitVec 16) (s : State) : State :=
  { s with cnt := s.cnt.countOk s.out.valid, out := { valid := true, id := id, st := st, ck := ck } }

/-- Reject: the failure is counted and nothing else changes (43_frame_validator.md R175). -/
def rejectFrame (s : State) : State := { s with cnt := s.cnt.countCkFail }

/-- `Validate(buf)` (43_frame_validator.md R170). -/
def validate (buf : BitVec 48) (s : State) : State :=
  if crc s.cfg (frameData s.cfg buf) = frameCk s.cfg buf then
    acceptFrame (field (frameData s.cfg buf) 8 24) (field (frameData s.cfg buf) 0 8) (frameCk s.cfg buf) s
  else rejectFrame s

end Sys2Proof.Machine
end

