-- ==== Sys2Proof/Machine/PulseTimer.lean ====
section
/-! DEFINITION. The pulse timer (41_pulse_timer.md R120 to R123). -/

namespace Sys2Proof.Machine

/-- A pulse as the timer emits it (00_scope.md R14). -/
structure Pulse where
  level : Bool
  duration : BitVec 16
  deriving DecidableEq, Repr

/-- `sat16` (00_scope.md R11). -/
def sat16 (n : Nat) : BitVec 16 := BitVec.ofNat 16 (min n durMax)

/-- `PulseTimer(c)`: one carrier decision, and the pulse it ends, if any (41_pulse_timer.md R120). -/
def pulseTimer (minPulse : BitVec 16) (c : Bool) (pt : PulseTimer) : PulseTimer × Option Pulse :=
  if !pt.started then
    -- R121
    ({ started := true, level := c, count := 1, glitch := 0 }, none)
  else if c = pt.level then
    -- R122
    ({ pt with count := sat16 (pt.count.toNat + pt.glitch.toNat + 1), glitch := 0 }, none)
  else if pt.glitch.toNat + 1 ≥ minPulse.toNat then
    -- R123, the run of the other level is confirmed
    ({ pt with level := c, count := BitVec.ofNat 16 (pt.glitch.toNat + 1), glitch := 0 },
      some { level := pt.level, duration := pt.count })
  else
    -- R123, not yet confirmed
    ({ pt with glitch := BitVec.ofNat 16 (pt.glitch.toNat + 1) }, none)

end Sys2Proof.Machine
end

