-- ==== Sys2Proof/Machine/BitRecoverer.lean ====
section
/-! DEFINITION. The bit recoverer (42_bit_recoverer.md R140 to R150). -/

namespace Sys2Proof.Machine

/-- `Classify(d)` (42_bit_recoverer.md R142). -/
def classify (c : CfgRegs) (d : BitVec 16) : Option Bool :=
  if c.inWin c.shortNom d then some c.shortBit
  else if c.inWin c.longNom d then some (!c.shortBit)
  else none

/-- `PreMatch(j, d)` (42_bit_recoverer.md R143). -/
def preMatch (c : CfgRegs) (j : Nat) (d : BitVec 16) : Bool :=
  if c.prePat.getLsbD j then c.inWin c.longNom d else c.inWin c.shortNom d

/-- The match index after a pulse of duration `d` (42_bit_recoverer.md R144). -/
def nextMatch (c : CfgRegs) (k : Nat) (d : BitVec 16) : Nat :=
  if preMatch c k d then k + 1
  else if decide (0 < k) && preMatch c 0 d then 1
  else 0

/-- IDLE and SYNC (42_bit_recoverer.md R144, R145). -/
def matchPreamble (c : CfgRegs) (d : BitVec 16) (br : BitRecoverer) : BitRecoverer :=
  if nextMatch c br.k.toNat d = c.preLen.toNat then { st := .receiving, k := 0, nbits := 0, buf := 0 }
  else if nextMatch c br.k.toNat d = 0 then { br with st := .idle, k := 0 }
  else { br with st := .sync, k := BitVec.ofNat 6 (nextMatch c br.k.toNat d) }

/-- The buffer with one more bit, shifted in at the least significant end (42_bit_recoverer.md R147). -/
def appendBit (buf : BitVec 48) (b : Bool) : BitVec 48 := (buf <<< 1) ||| (bit b).setWidth 48

/-- A framing error: counted, back to IDLE, the partial buffer discarded, the pulse consumed (42_bit_recoverer.md
R148). -/
def framingError (s : State) : State :=
  { s with cnt := s.cnt.countFrmErr, br := { s.br with st := .idle, nbits := 0, buf := 0 } }

/-- A classified bit (42_bit_recoverer.md R147). The bit that completes the frame takes the state through FRAME_READY
and the validator back to IDLE in the same beat (R149, R150). -/
def receiveBit (b : Bool) (s : State) : State :=
  if s.br.nbits.toNat + 1 = s.cfg.frameLen then
    { validate (appendBit s.br.buf b)
        { s with br := { s.br with st := .frameReady, nbits := s.br.nbits + 1, buf := appendBit s.br.buf b } } with
      br := { st := .idle, k := 0, nbits := 0, buf := 0 } }
  else { s with br := { s.br with nbits := s.br.nbits + 1, buf := appendBit s.br.buf b } }

/-- RECEIVING (42_bit_recoverer.md R147 to R149). -/
def receivePulse (d : BitVec 16) (s : State) : State :=
  match classify s.cfg d with
  | none => framingError s
  | some b => receiveBit b s

/-- `BitRecoverer(level, d)` (42_bit_recoverer.md R140): only the duration counts, not the level (R146). The
FRAME_READY arm has no body in the spec, being unreachable at a step boundary; here it changes nothing (DEDUCED,
log 6). -/
def bitRecoverer (pulse : Pulse) (s : State) : State :=
  match s.br.st with
  | .idle => { s with br := matchPreamble s.cfg pulse.duration s.br }
  | .sync => { s with br := matchPreamble s.cfg pulse.duration s.br }
  | .receiving => receivePulse pulse.duration s
  | .frameReady => s

end Sys2Proof.Machine
end

