-- ==== Sys2Proof/Machine/EnergyDetector.lean ====
section
/-! DEFINITION. The energy detector (40_sample_path.md R102 to R104). -/

namespace Sys2Proof.Machine

/-- Instantaneous power `i² + q²`, exact (40_sample_path.md R102). -/
def power (i q : Int) : Nat := (i * i + q * q).toNat

/-- The carrier decision: `p × n × 256 > S × THR_FACTOR` with `n` and `S` the length and the sum of the history before
this beat's update (40_sample_path.md R103). -/
def detect (p : Nat) (hist : List Nat) (thrFactor : BitVec 16) : Bool :=
  decide (p * hist.length * 256 > hist.sum * thrFactor.toNat)

/-- The history with this beat's power pushed, the newest ED_WIN entries kept (40_sample_path.md R104). -/
def pushPower (edWin : BitVec 16) (p : Nat) (hist : List Nat) : List Nat := (p :: hist).take edWin.toNat

/-- One accepted beat of power `p` in the detector: the decision on the old history, then the update. -/
def energyDetector (c : CfgRegs) (p : Nat) (ed : EnergyDetector) : EnergyDetector :=
  { hist := pushPower c.edWin p ed.hist, carrier := detect p ed.hist c.thrFactor }

end Sys2Proof.Machine
end

