-- ==== Sys2Proof/Machine/Sample.lean ====
section
/-! DEFINITION. The SAMPLE operation: one beat through the whole pipeline (40_sample_path.md R100, R101, R108). -/

namespace Sys2Proof.Machine

/-- The beat in the energy detector and the pulse timer, and the ghost sample index (40_sample_path.md R100,
10_state.md R21). -/
def timeBeat (i q : Int) (s : State) : State :=
  { s with
    ed := energyDetector s.cfg (power i q) s.ed
    pt := (pulseTimer s.cfg.minPulse (detect (power i q) s.ed.hist s.cfg.thrFactor) s.pt).1
    sampleIndex := s.sampleIndex + 1 }

/-- The pulse the beat ends, if any (41_pulse_timer.md R120). -/
def endedPulse (i q : Int) (s : State) : Option Pulse :=
  (pulseTimer s.cfg.minPulse (detect (power i q) s.ed.hist s.cfg.thrFactor) s.pt).2

/-- One accepted beat: a pulse it ends reaches the bit recoverer in the same beat (40_sample_path.md R100, R108). -/
def acceptBeat (i q : Int) (s : State) : State :=
  match endedPulse i q s with
  | none => timeBeat i q s
  | some pulse => bitRecoverer pulse (timeBeat i q s)

/-- SMP (40_sample_path.md R100); while ENABLE = 0 the beat changes nothing (R101). -/
def execSmp (i q : Int) (s : State) : Host.Outcome State Fault Refusal :=
  .next (if s.enable then acceptBeat i q s else s)

end Sys2Proof.Machine
end

