-- ==== Sys2Proof/Machine/Dispatch.lean ====
section
/-! DEFINITION. One arm per operation, each one call of its meaning. -/

namespace Sys2Proof.Machine

/-- The meaning of every operation. -/
def exec (i : Instr) (s : State) : Host.Outcome State Fault Refusal :=
  match i with
  | .smp a b => Sys2Proof.Machine.execSmp a b s
  | .rdCtrl => Sys2Proof.Machine.execRdCtrl s
  | .wrCtrl v => Sys2Proof.Machine.execWrCtrl v s
  | .rdStatus => Sys2Proof.Machine.execRdStatus s
  | .wrStatus v => Sys2Proof.Machine.execWrStatus v s
  | .rdEdCfg => Sys2Proof.Machine.execRdEdCfg s
  | .wrEdCfg v => Sys2Proof.Machine.execWrEdCfg v s
  | .rdPtCfg => Sys2Proof.Machine.execRdPtCfg s
  | .wrPtCfg v => Sys2Proof.Machine.execWrPtCfg v s
  | .rdBrNom => Sys2Proof.Machine.execRdBrNom s
  | .wrBrNom v => Sys2Proof.Machine.execWrBrNom v s
  | .rdBrCfg => Sys2Proof.Machine.execRdBrCfg s
  | .wrBrCfg v => Sys2Proof.Machine.execWrBrCfg v s
  | .rdPrePat => Sys2Proof.Machine.execRdPrePat s
  | .wrPrePat v => Sys2Proof.Machine.execWrPrePat v s
  | .rdCkCfg => Sys2Proof.Machine.execRdCkCfg s
  | .wrCkCfg v => Sys2Proof.Machine.execWrCkCfg v s
  | .rdCkPoly => Sys2Proof.Machine.execRdCkPoly s
  | .wrCkPoly v => Sys2Proof.Machine.execWrCkPoly v s
  | .rdCkXor => Sys2Proof.Machine.execRdCkXor s
  | .wrCkXor v => Sys2Proof.Machine.execWrCkXor v s
  | .rdOutFrame => Sys2Proof.Machine.execRdOutFrame s
  | .wrOutFrame v => Sys2Proof.Machine.execWrOutFrame v s
  | .rdOutAux => Sys2Proof.Machine.execRdOutAux s
  | .wrOutAux v => Sys2Proof.Machine.execWrOutAux v s
  | .rdCntOk => Sys2Proof.Machine.execRdCntOk s
  | .wrCntOk v => Sys2Proof.Machine.execWrCntOk v s
  | .rdCntCkFail => Sys2Proof.Machine.execRdCntCkFail s
  | .wrCntCkFail v => Sys2Proof.Machine.execWrCntCkFail v s
  | .rdCntFrmErr => Sys2Proof.Machine.execRdCntFrmErr s
  | .wrCntFrmErr v => Sys2Proof.Machine.execWrCntFrmErr v s
  | .rdCntOvwr => Sys2Proof.Machine.execRdCntOvwr s
  | .wrCntOvwr v => Sys2Proof.Machine.execWrCntOvwr v s

end Sys2Proof.Machine
end

