-- ==== Sys2Proof/Machine/Fetch.lean ====
section
/-! DEFINITION. Which operation comes next, taken from the pending inputs in the total order of 20_memory.md R69. -/

namespace Sys2Proof.Machine

/-- What the ports offer, with the inputs that remain after it. -/
inductive Fetched where
  /-- No operation: nothing pending, or a clock in which no agent does anything. -/
  | idle (rest : List ClockInput)
  /-- The reset pin is asserted. -/
  | reset (rest : List ClockInput)
  /-- One operation. -/
  | word (w : PortWord) (rest : List ClockInput)
  deriving DecidableEq, Repr

/-- The next operation: clocks in order, and within one clock the host access before the beat (20_memory.md R69,
60_exceptions.md R244). -/
def nextOp : List ClockInput → Fetched
  | [] => .idle []
  | .reset :: rest => .reset rest
  | .clock none none :: rest => .idle rest
  | .clock none (some b) :: rest => .word (.beat b) rest
  | .clock (some h) none :: rest => .word (.host h.cmd h.data) rest
  | .clock (some h) (some b) :: rest => .word (.host h.cmd h.data) (.clock none (some b) :: rest)

/-- The clock in which one operation stands alone on its port. -/
def clockOf : PortWord → ClockInput
  | .host c d => .clock (some { cmd := c, data := d }) none
  | .beat b => .clock none (some b)

/-- The state with `rest` as what is still to come. -/
def withInputs (rest : List ClockInput) (s : State) : State := { s with inputs := rest }

end Sys2Proof.Machine
end

