-- ==== Sys2Proof/Machine/Step.lean ====
section
/-! DEFINITION. One step: one operation of the total order (00_scope.md R13, 20_memory.md R69). -/

namespace Sys2Proof.Machine

/-- One step takes the next operation from the ports and performs it: a SAMPLE beat or a host access, a reserved
command (30_encoding.md R85), or the hard reset (70_reset_and_hazards.md R260). With no operation nothing of the core
changes (10_state.md R22, log 4). -/
def step (s : State) : Host.Outcome State Fault Refusal :=
  match nextOp s.inputs with
  | .idle rest => .next (withInputs rest s)
  | .reset rest => .next (hardReset (withInputs rest s))
  | .word w rest =>
    match decode s.params w with
    | .op i => exec i (withInputs rest s)
    | .reservedRead => .next (reservedRead (withInputs rest s))
    | .reservedWrite => .next (reservedWrite (withInputs rest s))

/-- The state with the operation of an opcode-table word as the next one on its port (log 1, log 13). -/
def State.withFetchWord (s : State) (nbits w : Nat) : State :=
  match tablePortWord nbits w with
  | some pw => withInputs (clockOf pw :: s.inputs) s
  | none => s

end Sys2Proof.Machine
end

