-- ==== Sys2Proof/Safety.lean ====
section
/-! DEFINITION. What a well-behaved state is: the invariant that every step keeps. -/

namespace Sys2Proof.Machine

/-- The detector's history: at most WIN_MAX powers, at most ED_WIN while the core runs, each at most the greatest power
of a sample (10_state.md R40, 40_sample_path.md R102). -/
abbrev State.HistInv (s : State) : Prop :=
  s.ed.hist.length ≤ s.params.winMax ∧ (s.enable = true → s.ed.hist.length ≤ s.cfg.edWin.toNat) ∧
    ∀ x ∈ s.ed.hist, x ≤ 2 ^ (2 * s.params.sampleW - 1)

/-- The pulse timer: all 0 until started, a pulse being timed has at least one sample, and while the core runs an
unconfirmed run is shorter than MIN_PULSE (10_state.md R42, 41_pulse_timer.md R121 to R123). -/
abbrev State.PulseInv (s : State) : Prop :=
  (s.pt.started = false → s.pt = PulseTimer.reset) ∧ (s.pt.started = true → 1 ≤ s.pt.count.toNat) ∧
    (s.enable = true → s.pt.glitch.toNat < s.cfg.minPulse.toNat)

/-- The bit recoverer (10_state.md R43, 42_bit_recoverer.md R150): never FRAME_READY between steps; PRE_IDX is 0 outside
SYNC and 1 to 31 in SYNC, below PRE_LEN while the core runs; BIT_CNT is 0 outside RECEIVING and at most 47 in it, below
FRAME_LEN while the core runs; the buffer is 0 above its BIT_CNT bits. -/
abbrev State.RecovererInv (s : State) : Prop :=
  s.br.st ≠ .frameReady ∧
    (s.br.st = .sync → 1 ≤ s.br.k.toNat ∧ s.br.k.toNat ≤ 31) ∧
    (s.br.st ≠ .sync → s.br.k = 0) ∧
    (s.enable = true → s.br.st = .sync → s.br.k.toNat < s.cfg.preLen.toNat) ∧
    s.br.nbits.toNat ≤ 47 ∧
    (s.br.st ≠ .receiving → s.br.nbits = 0) ∧
    (s.enable = true → s.br.nbits.toNat < s.cfg.frameLen) ∧
    s.br.buf.toNat < 2 ^ s.br.nbits.toNat

/-- The invariant of the machine: legal build parameters, an enabled core only with a valid configuration (10_state.md
R46), and the three datapath invariants. It is a premise about the state alone: the pending inputs may be anything. -/
abbrev State.Inv (s : State) : Prop :=
  s.params.Legal ∧ (s.enable = true → s.cfg.valid s.params = true) ∧ s.HistInv ∧ s.PulseInv ∧ s.RecovererInv

/-- A state in which the core runs: the invariant holds and ENABLE = 1, so CfgValid holds (10_state.md R46). -/
abbrev State.Running (s : State) : Prop := s.Inv ∧ s.enable = true

end Sys2Proof.Machine
end

