-- ==== Sys2Proof/Certificates/Slice0/Obligations.lean ====
section
/-! DEFINITION. The statements for the provers, from the numbered rules of the spec, and the few notions they are said
in. -/

namespace Sys2Proof.Machine

/-- The read of register `idx` (10_state.md R23, 30_encoding.md R87). -/
def readInstr (idx : BitVec 4) : Instr :=
  match idx.toNat with
  | 0 => .rdCtrl
  | 1 => .rdStatus
  | 2 => .rdEdCfg
  | 3 => .rdPtCfg
  | 4 => .rdBrNom
  | 5 => .rdBrCfg
  | 6 => .rdPrePat
  | 7 => .rdCkCfg
  | 8 => .rdCkPoly
  | 9 => .rdCkXor
  | 10 => .rdOutFrame
  | 11 => .rdOutAux
  | 12 => .rdCntOk
  | 13 => .rdCntCkFail
  | 14 => .rdCntFrmErr
  | _ => .rdCntOvwr

/-- The write of `v` to register `idx` (10_state.md R23, 30_encoding.md R87). -/
def writeInstr (idx : BitVec 4) (v : Word) : Instr :=
  match idx.toNat with
  | 0 => .wrCtrl v
  | 1 => .wrStatus v
  | 2 => .wrEdCfg v
  | 3 => .wrPtCfg v
  | 4 => .wrBrNom v
  | 5 => .wrBrCfg v
  | 6 => .wrPrePat v
  | 7 => .wrCkCfg v
  | 8 => .wrCkPoly v
  | 9 => .wrCkXor v
  | 10 => .wrOutFrame v
  | 11 => .wrOutAux v
  | 12 => .wrCntOk v
  | 13 => .wrCntCkFail v
  | 14 => .wrCntFrmErr v
  | _ => .wrCntOvwr v

/-- The eight configuration registers, index 2 to 9 (44_host_ops.md R205). -/
abbrev isCfgIndex (idx : BitVec 4) : Prop := 2 ≤ idx.toNat ∧ idx.toNat ≤ 9

/-- "Carrier-present" for the sample `(i, q)` in state `s`, on mathematical integers: `p × n × 256 > S × THR_FACTOR`
(40_sample_path.md R102, R103). -/
abbrev carrierPresent (i q : Int) (s : State) : Prop :=
  (i * i + q * q) * (s.ed.hist.length : Int) * 256 > (s.ed.hist.sum : Int) * (s.cfg.thrFactor.toNat : Int)

/-- The pulses the timer emits on a sequence of carrier decisions, first emitted first. -/
def emittedPulses (minPulse : BitVec 16) : PulseTimer → List Bool → List Pulse
  | _, [] => []
  | pt, c :: cs =>
    match pulseTimer minPulse c pt with
    | (pt', none) => emittedPulses minPulse pt' cs
    | (pt', some pulse) => pulse :: emittedPulses minPulse pt' cs

/-- The timer after a sequence of carrier decisions. -/
def timerAfter (minPulse : BitVec 16) : PulseTimer → List Bool → PulseTimer
  | pt, [] => pt
  | pt, c :: cs => timerAfter minPulse (pulseTimer minPulse c pt).1 cs

/-- The state after a sequence of pulses has reached the bit recoverer. -/
def feedPulses : List Pulse → State → State
  | [], s => s
  | pulse :: rest, s => feedPulses rest (bitRecoverer pulse s)

/-- The low `n` bits of `v`, most significant first (20_memory.md R63). -/
def bitsMsbFirst {len : Nat} (v : BitVec len) : Nat → List Bool
  | 0 => []
  | n + 1 => v.getLsbD n :: bitsMsbFirst v n

/-- The bits of a frame in the order received: device id, status, checksum (20_memory.md R63). -/
def frameBits (id : BitVec 24) (st : BitVec 8) (ck : BitVec 16) (ckW : Nat) : List Bool :=
  bitsMsbFirst id 24 ++ bitsMsbFirst st 8 ++ bitsMsbFirst ck ckW

/-- The number of ones among the low `n` bits. -/
def countOnes {len : Nat} (v : BitVec len) : Nat → Nat
  | 0 => 0
  | n + 1 => (if v.getLsbD n then 1 else 0) + countOnes v n

/-- The fields of the state outside the datapath's stages: build parameters, configuration, control and status flags,
and the ports. -/
abbrev sameOutsideDatapath (s t : State) : Prop :=
  t.params = s.params ∧ t.cfg = s.cfg ∧ t.enable = s.enable ∧ t.irqEn = s.irqEn ∧ t.cfgErr = s.cfgErr ∧
    t.inputs = s.inputs ∧ t.readLog = s.readLog

end Sys2Proof.Machine

open Sys2Proof Sys2Proof.Machine

/-! ## Encoding -/

/-- Decoding an encoded well-formed operation gives it back, on every legal instance, with every operand at every value
the encoding admits (30_encoding.md R81, R82, R87). -/
def Obligations.DecodeOfEncodeIsTheOperation : Prop :=
  ∀ (p : Params) (i : Instr), p.Legal → i.wellFormed p = true → decode p (encode p i) = .op i

/-- 30_encoding.md R81: decode of format H by its three fields. -/
def Obligations.CommandByteDecodesByItsFields : Prop :=
  ∀ (p : Params) (c : CommandByte) (d : Word),
    (c.extractLsb' 4 3 ≠ 0 → decode p (.host c d) = if c.getLsbD 7 then .reservedWrite else .reservedRead) ∧
    (c.extractLsb' 4 3 = 0 → c.getLsbD 7 = false → decode p (.host c d) = .op (readInstr (c.extractLsb' 0 4))) ∧
    (c.extractLsb' 4 3 = 0 → c.getLsbD 7 = true → decode p (.host c d) = .op (writeInstr (c.extractLsb' 0 4) d))

/-- 30_encoding.md R82: every beat decodes to a sample in range whose components are the two's complement numbers in the
upper and the lower half of the beat; and the rule's two examples at the reference SAMPLE_W. -/
def Obligations.BeatDecodesToItsTwoHalves : Prop :=
  (∀ (p : Params) (b : BeatWord), p.Legal →
    ∃ i q : Int, decode p (.beat b) = .op (.smp i q) ∧ (Instr.smp i q).wellFormed p = true ∧
      i % 2 ^ p.sampleW = (b.toNat / 2 ^ p.sampleW : Nat) % 2 ^ p.sampleW ∧
      q % 2 ^ p.sampleW = (b.toNat : Int) % 2 ^ p.sampleW) ∧
  decode Params.reference (.beat 0x1000#32) = .op (.smp 16 0) ∧
  decode Params.reference (.beat 0x8080#32) = .op (.smp (-128) (-128))

/-- Words written out from 30_encoding.md R80 to R82 decode to what they stand for: two beats, three command bytes, two
commands with data words, and a reserved write. The layout of a table word is the model's own (log 13). -/
def Obligations.WrittenOutWordsDecode : Prop :=
  decodeTableWord 16 0b0001000000000000 = some (.smp 16 0) ∧
  decodeTableWord 16 0b0000000011110000 = some (.smp 0 (-16)) ∧
  decodeTableWord 8 0b00000001 = some .rdStatus ∧
  decodeTableWord 8 0b00001010 = some .rdOutFrame ∧
  decodeTableWord 8 0b00001111 = some .rdCntOvwr ∧
  decode Params.reference (.host 0b10000000#8 0x00000009#32) = .op (.wrCtrl 0x00000009#32) ∧
  decode Params.reference (.host 0b10000101#8 0x00050040#32) = .op (.wrBrCfg 0x00050040#32) ∧
  decode Params.reference (.host 0b10010000#8 0#32) = .reservedWrite

/-! ## The step, the ports and the hard reset -/

/-- A step runs the decoded operation: the operation of a host access, or of a beat that stands alone, is executed in
the state whose pending inputs are what is left of the clock and the clocks after it; and `withFetchWord` puts the
operation of a table word where the very next step takes it. The queue is the model's own (logs 1 and 13). -/
def Obligations.StepRunsTheDecodedOperation : Prop :=
  (∀ (s : State) (h : HostAccess) (rest : List ClockInput) (i : Instr), s.inputs = .clock (some h) none :: rest →
    decode s.params (.host h.cmd h.data) = .op i → step s = exec i { s with inputs := rest }) ∧
  (∀ (s : State) (h : HostAccess) (b : BeatWord) (rest : List ClockInput) (i : Instr),
    s.inputs = .clock (some h) (some b) :: rest → decode s.params (.host h.cmd h.data) = .op i →
    step s = exec i { s with inputs := .clock none (some b) :: rest }) ∧
  (∀ (s : State) (b : BeatWord) (rest : List ClockInput) (i : Instr), s.inputs = .clock none (some b) :: rest →
    decode s.params (.beat b) = .op i → step s = exec i { s with inputs := rest }) ∧
  (∀ (s : State) (nbits w : Nat) (pw : PortWord) (i : Instr), tablePortWord nbits w = some pw →
    decode s.params pw = .op i → step (s.withFetchWord nbits w) = exec i s)

/-- With no operation pending nothing changes: "every state change happens in a SAMPLE beat, a host access, or a reset"
(10_state.md R22; the answer of such a step is the model's, log 4). -/
def Obligations.NoOperationNoChange : Prop :=
  (∀ s : State, s.inputs = [] → step s = .next s) ∧
  ∀ (s : State) (rest : List ClockInput), s.inputs = .clock none none :: rest → step s = .next { s with inputs := rest }

/-- A clock with a host access and a beat is the access in one clock and then the beat in the next: every access, on
every state, goes first (20_memory.md R69, 60_exceptions.md R244). -/
def Obligations.HostAccessGoesBeforeTheBeat : Prop :=
  ∀ (s : State) (h : HostAccess) (b : BeatWord) (rest : List ClockInput),
    s.inputs = .clock (some h) (some b) :: rest →
    ∃ t u, step s = .next t ∧ t.inputs = .clock none (some b) :: rest ∧ step t = .next u ∧ u.inputs = rest ∧
      step { s with inputs := .clock (some h) none :: .clock none (some b) :: rest } = .next t

/-- The two same-clock cases of 60_exceptions.md R244: a read of OUT_FRAME beside a beat returns the old frame, and a
frame the beat accepts stays unread and overwrites nothing; a disabling write of CTRL leaves the beat ignored. -/
def Obligations.SameClockReadAndDisable : Prop :=
  ∀ (s t u : State) (h : HostAccess) (b : BeatWord) (rest : List ClockInput),
    s.inputs = .clock (some h) (some b) :: rest → step s = .next t → step t = .next u →
    (h.cmd = 0x0A → t.readLog = s.outFrame :: s.readLog ∧ (u.cnt.ok ≠ s.cnt.ok → u.out.valid = true) ∧
      u.cnt.ovwr = s.cnt.ovwr) ∧
    (h.cmd = 0x80 → h.data.getLsbD 0 = false → t.enable = false ∧ u = { t with inputs := rest })

/-- Every step completes: no operation fails, stalls or is refused (60_exceptions.md R240), and no step changes the
build parameters. -/
def Obligations.EveryStepCompletes : Prop :=
  ∀ s : State, ∃ t, step s = .next t ∧ t.params = s.params

/-- 30_encoding.md R85: a reserved read returns 0 and changes no state, a reserved write changes no state, and 224 of
the 256 command bytes are reserved. -/
def Obligations.ReservedCommandChangesNothing : Prop :=
  (∀ (s : State) (h : HostAccess) (rest : List ClockInput), s.inputs = .clock (some h) none :: rest →
    h.cmd.extractLsb' 4 3 ≠ 0 →
    (h.cmd.getLsbD 7 = false → step s = .next { s with inputs := rest, readLog := 0#32 :: s.readLog }) ∧
    (h.cmd.getLsbD 7 = true → step s = .next { s with inputs := rest })) ∧
  ((List.range 256).filter fun c => decide ((BitVec.ofNat 8 c).extractLsb' 4 3 ≠ 0)).length = 224

/-- 70_reset_and_hazards.md R260: the reset pin, in every state. -/
def Obligations.HardResetClearsEverything : Prop :=
  ∀ (s : State) (rest : List ClockInput), s.inputs = .reset :: rest →
    ∃ t, step s = .next t ∧ (∀ idx : BitVec 4, t.regRead idx = 0) ∧ t.ed.hist = [] ∧ t.ed.carrier = false ∧
      t.pt.started = false ∧ t.pt.level = false ∧ t.pt.count = 0 ∧ t.pt.glitch = 0 ∧
      t.br.st = .idle ∧ t.br.k = 0 ∧ t.br.nbits = 0 ∧ t.br.buf = 0 ∧
      t.out.valid = false ∧ t.out.id = 0 ∧ t.out.st = 0 ∧ t.out.ck = 0 ∧ t.cfgErr = false ∧ t.enable = false ∧
      t.irqEn = false ∧ t.cnt.ok = 0 ∧ t.cnt.ckFail = 0 ∧ t.cnt.frmErr = 0 ∧ t.cnt.ovwr = 0 ∧ t.irq = false ∧
      t.sampleIndex = 0

/-- What a hard reset keeps, the model's own fields (log 10): the build parameters, the rest of the pending inputs and
the record of what the host has read. -/
def Obligations.HardResetKeepsThePorts : Prop :=
  ∀ (s : State) (rest : List ClockInput), s.inputs = .reset :: rest →
    ∃ t, step s = .next t ∧ t.params = s.params ∧ t.inputs = rest ∧ t.readLog = s.readLog

/-- 10_state.md R53: after reset every register reads 0, the core is disabled with the interrupt masked, the zero
configuration fails V1, V2, V3, V5, V6 and V7, and a request to enable is refused. -/
def Obligations.ResetStateIsZeroAndCannotBeEnabled : Prop :=
  ∀ p : Params,
    (∀ idx : BitVec 4, (State.resetOf p).regRead idx = 0) ∧ (State.resetOf p).ed.hist = [] ∧
    (State.resetOf p).br.st = .idle ∧ (State.resetOf p).pt = ⟨false, false, 0, 0⟩ ∧ (State.resetOf p).br.buf = 0 ∧
    (State.resetOf p).enable = false ∧ (State.resetOf p).irqEn = false ∧
    (CfgRegs.reset.v1 p = false ∧ CfgRegs.reset.v2 = false ∧ CfgRegs.reset.v3 = false ∧ CfgRegs.reset.v5 = false ∧
      CfgRegs.reset.v6 = false ∧ CfgRegs.reset.v7 = false) ∧
    ∀ v : Word, v.getLsbD 0 = true →
      ∃ t, exec (.wrCtrl v) (State.resetOf p) = .next t ∧ t.enable = false ∧ t.cfgErr = true

/-! ## The invariant -/

/-- The invariant holds in the state after reset of every legal instance, the reference one among them. -/
def Obligations.InvariantHoldsAtReset : Prop :=
  (∀ p : Params, p.Legal → (State.resetOf p).Inv) ∧ State.reset.Inv

/-- Every step keeps the invariant, from every state that has it and for every pending input: an enabled core has a
valid configuration (10_state.md R46), the history, the pulse timer and the bit recoverer stay in their ranges
(10_state.md R40 to R43), and FRAME_READY is never seen between steps (42_bit_recoverer.md R150). -/
def Obligations.EveryStepKeepsTheInvariant : Prop :=
  ∀ s t : State, s.Inv → step s = .next t → t.Inv

/-- 10_state.md R46 over one step: CfgValid holds while enabled, the configuration registers do not change while the
core stays enabled, and ENABLE becomes 1 only with a configuration that passed the check. -/
def Obligations.EnabledMeansValidConfiguration : Prop :=
  ∀ s t : State, step s = .next t →
    ((s.enable = true → s.cfg.valid s.params = true) → t.enable = true → t.cfg.valid t.params = true) ∧
    (s.enable = true → t.enable = true → t.cfg = s.cfg) ∧
    (s.enable = false → t.enable = true → t.cfg = s.cfg ∧ s.cfg.valid s.params = true)

/-- 10_state.md R45: CfgValid is the conjunction of V1 to V7, V4 comparing the floor of the short window's upper bound
with the ceiling of the long window's lower bound; and where V3 holds, V4 says that no duration lies in both windows. -/
def Obligations.CfgValidIsTheSevenChecks : Prop :=
  ∀ (p : Params) (c : CfgRegs),
    (c.valid p = true ↔
      (1 ≤ c.edWin.toNat ∧ c.edWin.toNat ≤ p.winMax) ∧ 1 ≤ c.minPulse.toNat ∧
      (1 ≤ c.shortNom.toNat ∧ c.shortNom.toNat < c.longNom.toNat) ∧
      c.shortNom.toNat * (256 + c.tol.toNat) / 256 < (c.longNom.toNat * (256 - c.tol.toNat) + 255) / 256 ∧
      (1 ≤ c.preLen.toNat ∧ c.preLen.toNat ≤ 32) ∧ (1 ≤ c.ckW.toNat ∧ c.ckW.toNat ≤ 16) ∧
      c.ckPoly.toNat % 2 ^ c.ckW.toNat ≠ 0) ∧
    (1 ≤ c.shortNom.toNat → c.shortNom.toNat < c.longNom.toNat →
      (c.shortNom.toNat * (256 + c.tol.toNat) / 256 < (c.longNom.toNat * (256 - c.tol.toNat) + 255) / 256 ↔
        ∀ d : BitVec 16, ¬ (c.inWin c.shortNom d = true ∧ c.inWin c.longNom d = true)))

/-! ## The SAMPLE operation -/

/-- 40_sample_path.md R101: while disabled a beat changes no state at all. -/
def Obligations.DisabledBeatChangesNothing : Prop :=
  ∀ (s : State) (i q : Int), s.enable = false → exec (.smp i q) s = .next s

/-- 40_sample_path.md R103 and R104: the carrier decision on the history before the beat, then the history with the
beat's power. -/
def Obligations.SampleBeatDetectsAndUpdatesTheBaseline : Prop :=
  ∀ (s : State) (i q : Int), s.enable = true →
    ∃ t, exec (.smp i q) s = .next t ∧ (t.ed.carrier = true ↔ carrierPresent i q s) ∧
      (s.ed.hist = [] → t.ed.carrier = false) ∧
      t.ed.hist = List.take s.cfg.edWin.toNat ((i * i + q * q).toNat :: s.ed.hist)

/-- What a beat never writes (40_sample_path.md R100): a configuration register, CTRL or CFG_ERR, nor the model's own
fields; the ghost index counts the accepted beats (10_state.md R21). -/
def Obligations.SampleBeatFrame : Prop :=
  ∀ (s : State) (i q : Int), ∃ t, exec (.smp i q) s = .next t ∧ sameOutsideDatapath s t ∧
    t.sampleIndex = s.sampleIndex + (if s.enable then 1 else 0)

/-- 40_sample_path.md R102: the power of a sample in range is the exact `i² + q²`, at most 2^(2·SAMPLE_W − 1), reached
at the most negative components; it is what the history receives. -/
def Obligations.PowerIsExactAndBounded : Prop :=
  ∀ (s : State) (i q : Int), s.Running → (Instr.smp i q).wellFormed s.params = true →
    ∃ t p, exec (.smp i q) s = .next t ∧ t.ed.hist.head? = some p ∧ (p : Int) = i ^ 2 + q ^ 2 ∧
      p ≤ 2 ^ (2 * s.params.sampleW - 1) ∧
      (i = -(2 ^ (s.params.sampleW - 1) : Int) → q = -(2 ^ (s.params.sampleW - 1) : Int) →
        p = 2 ^ (2 * s.params.sampleW - 1))

/-- 40_sample_path.md R106, the corner cases of the decision: factor 0; zero power; constant input; two-level input, and
with a factor below 1 every present sample after the first beat; the decision depends on the power only. -/
def Obligations.CarrierDecisionCornerCases : Prop :=
  ∀ (s : State) (i q : Int), s.enable = true →
    ∃ t, exec (.smp i q) s = .next t ∧
      (s.cfg.thrFactor = 0 → (t.ed.carrier = true ↔ 0 < i * i + q * q ∧ 1 ≤ s.ed.hist.length)) ∧
      (i * i + q * q = 0 → t.ed.carrier = false) ∧
      (∀ P : Nat, 0 < P → i * i + q * q = P → 1 ≤ s.ed.hist.length → (∀ x ∈ s.ed.hist, x = P) →
        (t.ed.carrier = true ↔ s.cfg.thrFactor.toNat < 256)) ∧
      (∀ P : Nat, 0 < P → i * i + q * q = P → (∀ x ∈ s.ed.hist, x = P ∨ x = 0) →
        (s.ed.hist.length = s.cfg.edWin.toNat →
          (t.ed.carrier = true ↔ s.cfg.edWin.toNat * 256 > s.ed.hist.count P * s.cfg.thrFactor.toNat)) ∧
        (s.cfg.thrFactor.toNat < 256 → 1 ≤ s.ed.hist.length → t.ed.carrier = true)) ∧
      (∀ i' q' : Int, i' * i' + q' * q' = i * i + q * q →
        ∃ t', exec (.smp i' q') s = .next t' ∧ t'.ed.carrier = t.ed.carrier)

/-! ## The pulse timer -/

/-- 41_pulse_timer.md R121: the first beat after a restart starts the first pulse with its level and duration 1 and
emits nothing. -/
def Obligations.FirstBeatStartsTheFirstPulse : Prop :=
  ∀ (s : State) (i q : Int), s.enable = true → s.pt.started = false →
    ∃ t, exec (.smp i q) s = .next t ∧ t.pt = ⟨true, t.ed.carrier, 1, 0⟩ ∧ t.br = s.br ∧ t.out = s.out ∧ t.cnt = s.cnt

/-- 41_pulse_timer.md R122: a beat at the level of the current pulse extends it by one and by the glitch before it,
saturating at 65535, and emits nothing. -/
def Obligations.SameLevelBeatExtendsThePulse : Prop :=
  ∀ (s : State) (i q : Int), s.enable = true → s.pt.started = true → (s.pt.level = true ↔ carrierPresent i q s) →
    ∃ t, exec (.smp i q) s = .next t ∧ t.pt.started = true ∧ t.pt.level = s.pt.level ∧
      t.pt.count.toNat = min 65535 (s.pt.count.toNat + s.pt.glitch.toNat + 1) ∧ t.pt.glitch = 0 ∧
      t.br = s.br ∧ t.out = s.out ∧ t.cnt = s.cnt

/-- 41_pulse_timer.md R123: a beat at the other level lengthens the unconfirmed run; at MIN_PULSE the current pulse ends
and reaches the bit recoverer in the same beat, and the confirmed run is the new pulse with duration MIN_PULSE. -/
def Obligations.OtherLevelBeatGlitchesOrEndsThePulse : Prop :=
  ∀ (s : State) (i q : Int), s.Running → s.pt.started = true → ¬ (s.pt.level = true ↔ carrierPresent i q s) →
    ∃ t, exec (.smp i q) s = .next t ∧ t.pt.started = true ∧
      (s.pt.glitch.toNat + 1 < s.cfg.minPulse.toNat →
        t.pt.level = s.pt.level ∧ t.pt.count = s.pt.count ∧ t.pt.glitch.toNat = s.pt.glitch.toNat + 1 ∧
        t.br = s.br ∧ t.out = s.out ∧ t.cnt = s.cnt) ∧
      (¬ s.pt.glitch.toNat + 1 < s.cfg.minPulse.toNat →
        t.pt.level = (!s.pt.level) ∧ t.pt.count = s.cfg.minPulse ∧ t.pt.glitch = 0 ∧
        t.br = (bitRecoverer ⟨s.pt.level, s.pt.count⟩ s).br ∧ t.out = (bitRecoverer ⟨s.pt.level, s.pt.count⟩ s).out ∧
        t.cnt = (bitRecoverer ⟨s.pt.level, s.pt.count⟩ s).cnt)

/-- 41_pulse_timer.md R124: on every sequence of carrier decisions after a restart, consecutive emitted pulses have
different levels; the first lasts at least 1 and every later one at least MIN_PULSE; none lasts more than 65535. -/
def Obligations.EmittedPulsesAlternate : Prop :=
  ∀ (minPulse : BitVec 16) (cs : List Bool), 1 ≤ minPulse.toNat →
    List.IsChain (fun a b : Pulse => a.level ≠ b.level) (emittedPulses minPulse PulseTimer.reset cs) ∧
    (∀ pulse ∈ emittedPulses minPulse PulseTimer.reset cs, 1 ≤ pulse.duration.toNat ∧ pulse.duration.toNat ≤ 65535) ∧
    ∀ pulse ∈ (emittedPulses minPulse PulseTimer.reset cs).tail, minPulse.toNat ≤ pulse.duration.toNat

/-- No sample is lost or counted twice: up to saturation, the durations of the emitted pulses, the pulse being timed and
the unconfirmed run together count the beats since the restart (41_pulse_timer.md R121 to R123). -/
def Obligations.PulseDurationsCountEveryBeat : Prop :=
  ∀ (minPulse : BitVec 16) (cs : List Bool), 1 ≤ minPulse.toNat → cs.length ≤ 65535 →
    ((emittedPulses minPulse PulseTimer.reset cs).map fun pulse => pulse.duration.toNat).sum +
      (timerAfter minPulse PulseTimer.reset cs).count.toNat + (timerAfter minPulse PulseTimer.reset cs).glitch.toNat =
      cs.length

/-! ## The bit recoverer -/

/-- 42_bit_recoverer.md R141: the window by deviation is the window by its bounds, `lo` the ceiling of
`N × (256 − TOL) / 256` and `hi` the floor of `N × (256 + TOL) / 256`; with TOL 0 it is {N}; it never holds 0 for
N ≥ 1. -/
def Obligations.WindowIsItsBounds : Prop :=
  ∀ (c : CfgRegs) (n d : BitVec 16),
    (c.inWin n d = true ↔ ((d.toNat : Int) - n.toNat).natAbs * 256 ≤ n.toNat * c.tol.toNat) ∧
    (c.inWin n d = true ↔ c.winLo n ≤ d.toNat ∧ d.toNat ≤ c.winHi n) ∧
    (n.toNat * (256 - c.tol.toNat) ≤ 256 * c.winLo n ∧ 256 * c.winLo n < n.toNat * (256 - c.tol.toNat) + 256) ∧
    (256 * c.winHi n ≤ n.toNat * (256 + c.tol.toNat) ∧ n.toNat * (256 + c.tol.toNat) < 256 * c.winHi n + 256) ∧
    (c.tol = 0 → (c.inWin n d = true ↔ d = n)) ∧
    (1 ≤ n.toNat → 1 ≤ c.winLo n ∧ c.inWin n 0 = false)

/-- 42_bit_recoverer.md R142: under CfgValid the two windows are disjoint, and a pulse is a short bit, a long bit or a
framing error accordingly. -/
def Obligations.ClassifyByTheDisjointWindows : Prop :=
  ∀ (p : Params) (c : CfgRegs) (d : BitVec 16), c.valid p = true →
    ¬ (c.inWin c.shortNom d = true ∧ c.inWin c.longNom d = true) ∧
    (classify c d = some c.shortBit ↔ c.inWin c.shortNom d = true) ∧
    (classify c d = some (!c.shortBit) ↔ c.inWin c.longNom d = true) ∧
    (classify c d = none ↔ c.inWin c.shortNom d = false ∧ c.inWin c.longNom d = false)

/-- 42_bit_recoverer.md R157: the complete transition table, row by row, in every state in which the core runs; each row
leaves what it does not name unchanged, and the shifted buffer is exact. -/
def Obligations.RecovererTransitionTable : Prop :=
  ∀ (s : State) (pulse : Pulse), s.Running →
    (s.br.st = .idle → preMatch s.cfg 0 pulse.duration = true → s.cfg.preLen.toNat = 1 →
      bitRecoverer pulse s = { s with br := ⟨.receiving, 0, 0, 0⟩ }) ∧
    (s.br.st = .idle → preMatch s.cfg 0 pulse.duration = true → 2 ≤ s.cfg.preLen.toNat →
      bitRecoverer pulse s = { s with br := { s.br with st := .sync, k := 1 } }) ∧
    (s.br.st = .idle → preMatch s.cfg 0 pulse.duration = false →
      bitRecoverer pulse s = { s with br := { s.br with k := 0 } }) ∧
    (s.br.st = .sync → preMatch s.cfg s.br.k.toNat pulse.duration = true → s.br.k.toNat + 1 = s.cfg.preLen.toNat →
      bitRecoverer pulse s = { s with br := ⟨.receiving, 0, 0, 0⟩ }) ∧
    (s.br.st = .sync → preMatch s.cfg s.br.k.toNat pulse.duration = true → s.br.k.toNat + 1 < s.cfg.preLen.toNat →
      ∃ k' : BitVec 6, k'.toNat = s.br.k.toNat + 1 ∧ bitRecoverer pulse s = { s with br := { s.br with k := k' } }) ∧
    (s.br.st = .sync → preMatch s.cfg s.br.k.toNat pulse.duration = false → preMatch s.cfg 0 pulse.duration = true →
      bitRecoverer pulse s = { s with br := { s.br with k := 1 } }) ∧
    (s.br.st = .sync → preMatch s.cfg s.br.k.toNat pulse.duration = false → preMatch s.cfg 0 pulse.duration = false →
      bitRecoverer pulse s = { s with br := { s.br with st := .idle, k := 0 } }) ∧
    (s.br.st = .receiving → classify s.cfg pulse.duration = none →
      bitRecoverer pulse s = { s with
        cnt := { s.cnt with frmErr := s.cnt.frmErr + 1 }, br := { s.br with st := .idle, nbits := 0, buf := 0 } }) ∧
    (∀ b : Bool, s.br.st = .receiving → classify s.cfg pulse.duration = some b →
      s.br.nbits.toNat + 1 < 32 + s.cfg.ckW.toNat →
      ∃ (n' : BitVec 6) (buf' : BitVec 48), n'.toNat = s.br.nbits.toNat + 1 ∧
        buf'.toNat = 2 * s.br.buf.toNat + b.toNat ∧
        bitRecoverer pulse s = { s with br := { s.br with nbits := n', buf := buf' } }) ∧
    (∀ b : Bool, s.br.st = .receiving → classify s.cfg pulse.duration = some b →
      s.br.nbits.toNat + 1 = 32 + s.cfg.ckW.toNat →
      ∃ buf' : BitVec 48, buf'.toNat = 2 * s.br.buf.toNat + b.toNat ∧
        bitRecoverer pulse s = { validate buf' s with br := ⟨.idle, 0, 0, 0⟩ })

/-- 42_bit_recoverer.md R148: in RECEIVING a pulse for which Classify returns none is a framing error: the count goes up
modulo 2^32, the state is IDLE, the partial buffer is gone, nothing is output, and the pulse is consumed (the match
index is 0 whatever element 0 is); the durations for which this happens are those below, between and above the two
windows (R153). -/
def Obligations.FramingErrorDiscardsThePartialFrame : Prop :=
  ∀ (s : State) (pulse : Pulse), s.Running → s.br.st = .receiving →
    (classify s.cfg pulse.duration = none ↔
      pulse.duration.toNat < s.cfg.winLo s.cfg.shortNom ∨
        (s.cfg.winHi s.cfg.shortNom < pulse.duration.toNat ∧ pulse.duration.toNat < s.cfg.winLo s.cfg.longNom) ∨
        s.cfg.winHi s.cfg.longNom < pulse.duration.toNat) ∧
    (classify s.cfg pulse.duration = none →
      bitRecoverer pulse s =
        { s with cnt := { s.cnt with frmErr := s.cnt.frmErr + 1 }, br := ⟨.idle, 0, 0, 0⟩ })

/-- 42_bit_recoverer.md R150: the pulse that completes a frame leaves the recoverer in IDLE with everything cleared,
whatever the verdict; and from a state that is not FRAME_READY no step leads to one, so STATUS.BR_STATE never reads
3. -/
def Obligations.FrameReadyIsNeverSeen : Prop :=
  (∀ (s : State) (pulse : Pulse) (b : Bool), s.br.st = .receiving → classify s.cfg pulse.duration = some b →
    s.br.nbits.toNat + 1 = 32 + s.cfg.ckW.toNat → (bitRecoverer pulse s).br = ⟨.idle, 0, 0, 0⟩) ∧
  ∀ s t : State, s.br.st ≠ .frameReady → step s = .next t →
    t.br.st ≠ .frameReady ∧ t.status.extractLsb' 0 2 ≠ 3

/-- 42_bit_recoverer.md R156, with R146: the recoverer's next state depends on its state, the duration and the
configuration alone. -/
def Obligations.RecovererReadsOnlyDurationAndConfiguration : Prop :=
  ∀ (s s' : State) (pulse pulse' : Pulse), s'.br = s.br → s'.cfg = s.cfg → pulse'.duration = pulse.duration →
    (bitRecoverer pulse' s').br = (bitRecoverer pulse s).br

/-- A complete preamble from IDLE is recognised: PRE_LEN pulses that match elements 0, 1, 2, … in order lead to
RECEIVING with an empty buffer, and change nothing else (42_bit_recoverer.md R144, R145). -/
def Obligations.CompletePreambleIsRecognised : Prop :=
  ∀ (s : State) (ps : List Pulse), s.Running → s.br.st = .idle → ps.length = s.cfg.preLen.toNat →
    (∀ (j : Nat) (h : j < ps.length), preMatch s.cfg j (ps[j]'h).duration = true) →
    feedPulses ps s = { s with br := ⟨.receiving, 0, 0, 0⟩ }

/-- Noise gives no frame: pulses none of which lies in the window of preamble element 0 leave an idle recoverer and all
the rest of the state as it was, however many there are (95_test_vectors.md S7). -/
def Obligations.NoiseLeavesTheRecovererIdle : Prop :=
  ∀ (s : State) (ps : List Pulse), s.Running → s.br.st = .idle →
    (∀ pulse ∈ ps, preMatch s.cfg 0 pulse.duration = false) → feedPulses ps s = s

/-! ## The frame validator -/

/-- 43_frame_validator.md R174 and R175 with the layout of 20_memory.md R63: a complete buffer is accepted or rejected
by its checksum, and nothing else changes. -/
def Obligations.ValidateAcceptsOrRejects : Prop :=
  ∀ (s : State) (buf : BitVec 48), s.cfg.v6 = true →
    (crc s.cfg ((buf >>> s.cfg.ckW.toNat).setWidth 32) = buf.setWidth 16 &&& s.cfg.ckMask →
      validate buf s = { s with
        out := { valid := true, id := (buf >>> (s.cfg.ckW.toNat + 8)).setWidth 24,
                 st := (buf >>> s.cfg.ckW.toNat).setWidth 8, ck := BitVec.ofNat 16 (buf.toNat % 2 ^ s.cfg.ckW.toNat) },
        cnt := { s.cnt with ok := s.cnt.ok + 1, ovwr := s.cnt.ovwr + (if s.out.valid then 1 else 0) } }) ∧
    (crc s.cfg ((buf >>> s.cfg.ckW.toNat).setWidth 32) ≠ buf.setWidth 16 &&& s.cfg.ckMask →
      validate buf s = { s with cnt := { s.cnt with ckFail := s.cnt.ckFail + 1 } })

/-- A well-formed frame gives exactly one accepted frame: from the state a complete preamble leaves, pulses classified as
the bits of a device id, a status and their checksum, in the order of 20_memory.md R63, end in IDLE with that id,
status and checksum in the result register, CNT_OK one higher, and CNT_OVWR one higher if a frame was unread
(42_bit_recoverer.md R149, R154, 43_frame_validator.md R174; 95_test_vectors.md S2). -/
def Obligations.WellFormedFrameIsAcceptedExactlyOnce : Prop :=
  ∀ (s : State) (id : BitVec 24) (st : BitVec 8) (ck : BitVec 16) (ps : List Pulse), s.Running →
    s.br = ⟨.receiving, 0, 0, 0⟩ → ck = crc s.cfg (id ++ st) →
    (ps.map fun pulse => classify s.cfg pulse.duration) = (frameBits id st ck s.cfg.ckW.toNat).map some →
    feedPulses ps s = { s with
      br := ⟨.idle, 0, 0, 0⟩, out := ⟨true, id, st, ck⟩,
      cnt := { s.cnt with ok := s.cnt.ok + 1, ovwr := s.cnt.ovwr + (if s.out.valid then 1 else 0) } }

/-- A frame whose received checksum is not the computed one is rejected once and nothing is output
(43_frame_validator.md R175; 95_test_vectors.md S3). -/
def Obligations.WrongChecksumFrameIsRejectedOnce : Prop :=
  ∀ (s : State) (id : BitVec 24) (st : BitVec 8) (ck : BitVec 16) (ps : List Pulse), s.Running →
    s.br = ⟨.receiving, 0, 0, 0⟩ → ck.toNat < 2 ^ s.cfg.ckW.toNat → ck ≠ crc s.cfg (id ++ st) →
    (ps.map fun pulse => classify s.cfg pulse.duration) = (frameBits id st ck s.cfg.ckW.toNat).map some →
    feedPulses ps s = { s with br := ⟨.idle, 0, 0, 0⟩, cnt := { s.cnt with ckFail := s.cnt.ckFail + 1 } }

/-- 43_frame_validator.md R176: under every legal configuration flipping one of the 32 data bits changes the checksum,
and a valid frame with exactly one of its FRAME_LEN bits flipped is rejected. -/
def Obligations.SingleBitErrorIsAlwaysRejected : Prop :=
  ∀ (s : State), s.cfg.valid s.params = true →
    (∀ (data : Word) (i : Nat), i < 32 → crc s.cfg (data ^^^ BitVec.twoPow 32 i) ≠ crc s.cfg data) ∧
    ∀ (buf : BitVec 48) (j : Nat), j < 32 + s.cfg.ckW.toNat →
      crc s.cfg (frameData s.cfg buf) = frameCk s.cfg buf →
      validate (buf ^^^ BitVec.twoPow 48 j) s = { s with cnt := { s.cnt with ckFail := s.cnt.ckFail + 1 } }

/-- The checksum is an affine map of the data bits over GF(2) (43_frame_validator.md R176) and has no bit at or above
CK_W. -/
def Obligations.ChecksumIsAffine : Prop :=
  ∀ (c : CfgRegs) (a b : Word), c.v6 = true →
    crc c (a ^^^ b) = crc c a ^^^ crc c b ^^^ crc c (0#32) ∧ (crc c a).toNat < 2 ^ c.ckW.toNat

/-- 43_frame_validator.md R173: with CK_W = 1 and CK_POLY = 1 the checksum bit is the parity of CK_INIT[0], CK_XOROUT[0]
and all 32 data bits; even parity with both 0, odd parity with CK_XOROUT = 1. -/
def Obligations.WidthOneChecksumIsParity : Prop :=
  ∀ (c : CfgRegs) (data : Word), c.ckW = 1 → c.ckPoly = 1 →
    (crc c data).toNat = (c.ckInit.toNat + countOnes data 32 + c.ckXorout.toNat) % 2 ∧
    (c.ckInit = 0 → c.ckXorout = 0 → (countOnes data 32 + (crc c data).toNat) % 2 = 0) ∧
    (c.ckInit = 0 → c.ckXorout = 1 → (countOnes data 32 + (crc c data).toNat) % 2 = 1)

/-- The all-zero frame of 43_frame_validator.md R178: with CK_INIT and CK_XOROUT 0 its checksum is 0 for every width and
polynomial, so a buffer of zeros is accepted as device 0 with status 0. -/
def Obligations.AllZeroFrameIsAccepted : Prop :=
  ∀ s : State, s.cfg.ckInit = 0 → s.cfg.ckXorout = 0 →
    crc s.cfg (0#32) = 0 ∧
    validate 0 s = { s with
      out := ⟨true, 0, 0, 0⟩,
      cnt := { s.cnt with ok := s.cnt.ok + 1, ovwr := s.cnt.ovwr + (if s.out.valid then 1 else 0) } }

/-! ## Host reads -/

/-- 44_host_ops.md R202 and R203: RD_CTRL and RD_STATUS, bit by bit, and that they change no state of the core; where the
invariant holds, BR_STATE never reads 3, PRE_IDX is 0 unless BR_STATE is 1, and BIT_CNT is 0 unless it is 2. -/
def Obligations.ControlAndStatusReads : Prop :=
  ∀ s : State,
    (∃ v : Word, exec .rdCtrl s = .next { s with readLog := v :: s.readLog } ∧ v.getLsbD 0 = s.enable ∧
      v.getLsbD 1 = false ∧ v.getLsbD 2 = false ∧ v.getLsbD 3 = s.irqEn ∧ v.extractLsb' 4 28 = 0) ∧
    ∃ v : Word, exec .rdStatus s = .next { s with readLog := v :: s.readLog } ∧
      v.extractLsb' 0 2 = (match s.br.st with | .idle => 0 | .sync => 1 | .receiving => 2 | .frameReady => 3) ∧
      v.getLsbD 2 = s.out.valid ∧ v.getLsbD 3 = s.cfgErr ∧ v.getLsbD 4 = s.ed.carrier ∧
      v.getLsbD 5 = (s.pt.started && s.pt.level) ∧ v.extractLsb' 6 2 = 0 ∧ v.extractLsb' 8 6 = s.br.k ∧
      v.extractLsb' 14 2 = 0 ∧ v.extractLsb' 16 6 = s.br.nbits ∧ v.extractLsb' 22 10 = 0 ∧
      (s.Inv → v.extractLsb' 0 2 ≠ 3 ∧ (v.extractLsb' 0 2 ≠ 1 → v.extractLsb' 8 6 = 0) ∧
        (v.extractLsb' 0 2 ≠ 2 → v.extractLsb' 16 6 = 0))

/-- 44_host_ops.md R206, R208, R210, R212, R214, R216, R218 and R220: the eight configuration reads, field by field. -/
def Obligations.ConfigurationReads : Prop :=
  ∀ s : State,
    (∃ v : Word, exec .rdEdCfg s = .next { s with readLog := v :: s.readLog } ∧
      v.extractLsb' 0 16 = s.cfg.thrFactor ∧ v.extractLsb' 16 16 = s.cfg.edWin) ∧
    (∃ v : Word, exec .rdPtCfg s = .next { s with readLog := v :: s.readLog } ∧
      v.extractLsb' 0 16 = s.cfg.minPulse ∧ v.extractLsb' 16 16 = 0) ∧
    (∃ v : Word, exec .rdBrNom s = .next { s with readLog := v :: s.readLog } ∧
      v.extractLsb' 0 16 = s.cfg.shortNom ∧ v.extractLsb' 16 16 = s.cfg.longNom) ∧
    (∃ v : Word, exec .rdBrCfg s = .next { s with readLog := v :: s.readLog } ∧
      v.extractLsb' 0 8 = s.cfg.tol ∧ v.getLsbD 8 = s.cfg.shortBit ∧ v.extractLsb' 9 7 = 0 ∧
      v.extractLsb' 16 6 = s.cfg.preLen ∧ v.extractLsb' 22 10 = 0) ∧
    (exec .rdPrePat s = .next { s with readLog := s.cfg.prePat :: s.readLog }) ∧
    (∃ v : Word, exec .rdCkCfg s = .next { s with readLog := v :: s.readLog } ∧
      v.extractLsb' 0 5 = s.cfg.ckW ∧ v.extractLsb' 5 27 = 0) ∧
    (∃ v : Word, exec .rdCkPoly s = .next { s with readLog := v :: s.readLog } ∧
      v.extractLsb' 0 16 = s.cfg.ckPoly ∧ v.extractLsb' 16 16 = s.cfg.ckInit) ∧
    ∃ v : Word, exec .rdCkXor s = .next { s with readLog := v :: s.readLog } ∧
      v.extractLsb' 0 16 = s.cfg.ckXorout ∧ v.extractLsb' 16 16 = 0

/-- 44_host_ops.md R222 and R224: a read of OUT_FRAME returns the last frame and clears OUT_VALID and nothing else; a
read of OUT_AUX changes no state of the core. -/
def Obligations.ResultReads : Prop :=
  ∀ s : State,
    (∃ v : Word, exec .rdOutFrame s =
        .next { s with readLog := v :: s.readLog, out := { s.out with valid := false } } ∧
      v.extractLsb' 8 24 = s.out.id ∧ v.extractLsb' 0 8 = s.out.st) ∧
    ∃ v : Word, exec .rdOutAux s = .next { s with readLog := v :: s.readLog } ∧
      v.extractLsb' 0 16 = s.out.ck ∧ v.extractLsb' 16 15 = 0 ∧ v.getLsbD 31 = s.out.valid

/-- 44_host_ops.md R226, R228, R230 and R232: the counter reads return the counters and change no state of the core. -/
def Obligations.CounterReads : Prop :=
  ∀ s : State,
    exec .rdCntOk s = .next { s with readLog := s.cnt.ok :: s.readLog } ∧
    exec .rdCntCkFail s = .next { s with readLog := s.cnt.ckFail :: s.readLog } ∧
    exec .rdCntFrmErr s = .next { s with readLog := s.cnt.frmErr :: s.readLog } ∧
    exec .rdCntOvwr s = .next { s with readLog := s.cnt.ovwr :: s.readLog }

/-- The reads of the table of 20_memory.md R66: every read but that of OUT_FRAME changes nothing and is idempotent; the
one of OUT_FRAME clears OUT_VALID. A second read in a row returns the same word. -/
def Obligations.ReadSideEffectsAreTheTable : Prop :=
  ∀ (s : State) (idx : BitVec 4),
    ∃ t, exec (readInstr idx) s = .next t ∧ t.readLog = s.regRead idx :: s.readLog ∧
      (idx ≠ 10 → t = { s with readLog := s.regRead idx :: s.readLog }) ∧
      (idx = 10 → t = { s with readLog := s.outFrame :: s.readLog, out := { s.out with valid := false } }) ∧
      ∃ u, exec (readInstr idx) t = .next u ∧ u.readLog = s.regRead idx :: s.regRead idx :: s.readLog

/-! ## Host writes -/

/-- 44_host_ops.md R201: WR_CTRL in every state, with everything it changes and everything it leaves. -/
def Obligations.WriteControl : Prop :=
  ∀ (s : State) (v : Word), ∃ t, exec (.wrCtrl v) s = .next t ∧
    t.irqEn = v.getLsbD 3 ∧
    t.enable = (v.getLsbD 0 && (s.enable || s.cfg.valid s.params)) ∧
    t.cfgErr = ((s.cfgErr && !v.getLsbD 1) || (v.getLsbD 0 && !s.enable && !s.cfg.valid s.params)) ∧
    t.out = (if v.getLsbD 1 then ⟨false, 0, 0, 0⟩ else s.out) ∧
    t.cnt = (if v.getLsbD 1 || v.getLsbD 2 then ⟨0, 0, 0, 0⟩ else s.cnt) ∧
    ((v.getLsbD 1 || (v.getLsbD 0 && !s.enable && s.cfg.valid s.params)) = true →
      t.ed = ⟨[], false⟩ ∧ t.pt = ⟨false, false, 0, 0⟩ ∧ t.br = ⟨.idle, 0, 0, 0⟩) ∧
    ((v.getLsbD 1 || (v.getLsbD 0 && !s.enable && s.cfg.valid s.params)) = false →
      t.ed = s.ed ∧ t.pt = s.pt ∧ t.br = s.br) ∧
    t.cfg = s.cfg ∧ t.params = s.params ∧ t.sampleIndex = s.sampleIndex ∧ t.inputs = s.inputs ∧ t.readLog = s.readLog

/-- 44_host_ops.md R204: WR_STATUS clears CFG_ERR when bit 3 is 1 and changes nothing else. -/
def Obligations.WriteStatus : Prop :=
  ∀ (s : State) (v : Word),
    exec (.wrStatus v) s = .next { s with cfgErr := s.cfgErr && !v.getLsbD 3 }

/-- 44_host_ops.md R207, R209, R211, R213, R215, R217, R219 and R221: the eight configuration writes while disabled set
their fields and nothing else. -/
def Obligations.ConfigurationWritesWhileDisabled : Prop :=
  ∀ (s : State) (v : Word), s.enable = false →
    exec (.wrEdCfg v) s = .next { s with
      cfg := { s.cfg with thrFactor := v.extractLsb' 0 16, edWin := v.extractLsb' 16 16 } } ∧
    exec (.wrPtCfg v) s = .next { s with cfg := { s.cfg with minPulse := v.extractLsb' 0 16 } } ∧
    exec (.wrBrNom v) s = .next { s with
      cfg := { s.cfg with shortNom := v.extractLsb' 0 16, longNom := v.extractLsb' 16 16 } } ∧
    exec (.wrBrCfg v) s = .next { s with
      cfg := { s.cfg with tol := v.extractLsb' 0 8, shortBit := v.getLsbD 8, preLen := v.extractLsb' 16 6 } } ∧
    exec (.wrPrePat v) s = .next { s with cfg := { s.cfg with prePat := v } } ∧
    exec (.wrCkCfg v) s = .next { s with cfg := { s.cfg with ckW := v.extractLsb' 0 5 } } ∧
    exec (.wrCkPoly v) s = .next { s with
      cfg := { s.cfg with ckPoly := v.extractLsb' 0 16, ckInit := v.extractLsb' 16 16 } } ∧
    exec (.wrCkXor v) s = .next { s with cfg := { s.cfg with ckXorout := v.extractLsb' 0 16 } }

/-- 44_host_ops.md R205 over the eight configuration registers: while enabled a write is ignored and sets CFG_ERR; while
disabled the register then reads `v AND WMASK`, and every other register and all other state is as before; a read returns
the stored value and changes no state of the core. -/
def Obligations.ConfigurationWriteRule : Prop :=
  ∀ (s : State) (idx : BitVec 4) (v : Word), isCfgIndex idx →
    (s.enable = true → exec (writeInstr idx v) s = .next { s with cfgErr := true }) ∧
    (s.enable = false → ∃ c : CfgRegs, exec (writeInstr idx v) s = .next { s with cfg := c } ∧
      ({ s with cfg := c } : State).regRead idx = v &&& wmask idx ∧
      ∀ idx' : BitVec 4, idx' ≠ idx → ({ s with cfg := c } : State).regRead idx' = s.regRead idx') ∧
    exec (readInstr idx) s = .next { s with readLog := s.regRead idx :: s.readLog }

/-- The write masks of 30_encoding.md R84: a configuration register written while disabled reads back the written word
with its reserved bits 0. -/
def Obligations.ConfigurationReadsBackMasked : Prop :=
  ∀ (s : State) (idx : BitVec 4) (v mask : Word), s.enable = false →
    (idx, mask) ∈ [(2#4, 0xFFFFFFFF#32), (3#4, 0x0000FFFF#32), (4#4, 0xFFFFFFFF#32), (5#4, 0x003F01FF#32),
      (6#4, 0xFFFFFFFF#32), (7#4, 0x0000001F#32), (8#4, 0xFFFFFFFF#32), (9#4, 0x0000FFFF#32)] →
    ∃ t u, exec (writeInstr idx v) s = .next t ∧ exec (readInstr idx) t = .next u ∧
      u.readLog = (v &&& mask) :: s.readLog

/-- The order of the configuration writes among themselves does not matter (70_reset_and_hazards.md R262). -/
def Obligations.ConfigurationWritesCommute : Prop :=
  ∀ (s : State) (idx idx' : BitVec 4) (v v' : Word), isCfgIndex idx → isCfgIndex idx' → idx ≠ idx' →
    ∃ t t' u, exec (writeInstr idx v) s = .next t ∧ exec (writeInstr idx' v') t = .next u ∧
      exec (writeInstr idx' v') s = .next t' ∧ exec (writeInstr idx v) t' = .next u

/-- 44_host_ops.md R223, R225, R227, R229, R231 and R233: a write to a read-only register has no effect. -/
def Obligations.WritesToReadOnlyRegisters : Prop :=
  ∀ (s : State) (v : Word),
    exec (.wrOutFrame v) s = .next s ∧ exec (.wrOutAux v) s = .next s ∧ exec (.wrCntOk v) s = .next s ∧
    exec (.wrCntCkFail v) s = .next s ∧ exec (.wrCntFrmErr v) s = .next s ∧ exec (.wrCntOvwr v) s = .next s

/-! ## Whole-machine rules -/

/-- OUT_VALID, and with it `irq`, over every operation (10_state.md R52, 60_exceptions.md R243): it rises only in a beat
of the enabled core that counts an accepted frame, and falls only by a read of OUT_FRAME or by SoftReset. -/
def Obligations.OutValidChangesOnlyByItsRules : Prop :=
  ∀ (i : Instr) (s t : State), exec i s = .next t →
    t.irq = (t.irqEn && t.out.valid) ∧
    (s.out.valid = false → t.out.valid = true →
      s.enable = true ∧ t.cnt.ok = s.cnt.ok + 1 ∧ ∃ a b, i = .smp a b) ∧
    (s.out.valid = true → t.out.valid = false →
      i = .rdOutFrame ∨ ∃ v : Word, i = .wrCtrl v ∧ v.getLsbD 1 = true)

/-- Only a beat and a write of CTRL touch the sample history, the pulse timer and the bit recoverer (44_host_ops.md
R200); only a beat of the enabled core moves the ghost index. -/
def Obligations.OnlyBeatsAndControlTouchTheDatapath : Prop :=
  ∀ (i : Instr) (s t : State), exec i s = .next t → (∀ a b, i ≠ .smp a b) →
    t.sampleIndex = s.sampleIndex ∧
    ((∀ v, i ≠ .wrCtrl v) → t.ed = s.ed ∧ t.pt = s.pt ∧ t.br = s.br ∧ t.enable = s.enable ∧ t.irqEn = s.irqEn ∧
      t.out.id = s.out.id ∧ t.out.st = s.out.st ∧ t.out.ck = s.out.ck)

/-- In one beat at most one of the events EV1, EV2 and EV7 occurs, each raising its counter by one, and EV4 only with EV7
and exactly when a frame was unread (60_exceptions.md R241, R244). -/
def Obligations.AtMostOneEventInABeat : Prop :=
  ∀ (s : State) (a b : Int), ∃ t, exec (.smp a b) s = .next t ∧
    ((t.cnt = s.cnt ∧ t.out = s.out) ∨
     (t.cnt = { s.cnt with frmErr := s.cnt.frmErr + 1 } ∧ t.out = s.out) ∨
     (t.cnt = { s.cnt with ckFail := s.cnt.ckFail + 1 } ∧ t.out = s.out) ∨
     (t.cnt = { s.cnt with ok := s.cnt.ok + 1, ovwr := s.cnt.ovwr + (if s.out.valid then 1 else 0) } ∧
       t.out.valid = true))

/-- The counters change only in a beat of the enabled core or by a write of CTRL with SOFT_RESET or CLR_CNT, which clears
all four (10_state.md R36 to R39, 44_host_ops.md R227). -/
def Obligations.CountersChangeOnlyByTheirRules : Prop :=
  ∀ (i : Instr) (s t : State), exec i s = .next t → t.cnt ≠ s.cnt →
    (s.enable = true ∧ ∃ a b, i = .smp a b) ∨
    (t.cnt = ⟨0, 0, 0, 0⟩ ∧ ∃ v : Word, i = .wrCtrl v ∧ (v.getLsbD 1 = true ∨ v.getLsbD 2 = true))

/-- A successful enable forgets the datapath: whatever partial history, pulse, preamble or frame a disabled core holds,
the state after the enable is the same (10_state.md R50, 70_reset_and_hazards.md R263). -/
def Obligations.EnableForgetsThePartialDatapath : Prop :=
  ∀ (s : State) (v : Word) (ed : EnergyDetector) (pt : PulseTimer) (br : BitRecoverer), s.enable = false →
    s.cfg.valid s.params = true → v.getLsbD 0 = true →
    ∃ t, exec (.wrCtrl v) s = .next t ∧ t.enable = true ∧
      exec (.wrCtrl v) { s with ed := ed, pt := pt, br := br } = .next t

/-- Nothing the host does with the result, the counters or the interrupt changes how samples are decoded: two states that
differ only there have the same detector, timer and recoverer after any beat (92_eei_decisions.md D18). -/
def Obligations.ResultsDoNotInfluenceDecoding : Prop :=
  ∀ (s : State) (i q : Int) (out : ResultReg) (cnt : Counters) (irqEn cfgErr : Bool),
    ∃ t u, exec (.smp i q) s = .next t ∧
      exec (.smp i q) { s with out := out, cnt := cnt, irqEn := irqEn, cfgErr := cfgErr } = .next u ∧
      u.ed = t.ed ∧ u.pt = t.pt ∧ u.br = t.br
end

