-- ==== Sys2Proof/Laws/State.lean ====
section
/-! SUPPORT. For each named update of the state, one lemma per field, true by rfl, so that no proof unfolds a record
update. -/

namespace Sys2Proof.Machine

variable (s : State)

/-! ### `restart` -/

@[simp] theorem restart_params : (restart s).params = s.params := rfl
@[simp] theorem restart_cfg : (restart s).cfg = s.cfg := rfl
@[simp] theorem restart_enable : (restart s).enable = s.enable := rfl
@[simp] theorem restart_irqEn : (restart s).irqEn = s.irqEn := rfl
@[simp] theorem restart_cfgErr : (restart s).cfgErr = s.cfgErr := rfl
@[simp] theorem restart_ed : (restart s).ed = EnergyDetector.reset := rfl
@[simp] theorem restart_pt : (restart s).pt = PulseTimer.reset := rfl
@[simp] theorem restart_br : (restart s).br = BitRecoverer.reset := rfl
@[simp] theorem restart_out : (restart s).out = s.out := rfl
@[simp] theorem restart_cnt : (restart s).cnt = s.cnt := rfl
@[simp] theorem restart_sampleIndex : (restart s).sampleIndex = s.sampleIndex := rfl
@[simp] theorem restart_inputs : (restart s).inputs = s.inputs := rfl
@[simp] theorem restart_readLog : (restart s).readLog = s.readLog := rfl

/-! ### `clearCounters` -/

@[simp] theorem clearCounters_params : (clearCounters s).params = s.params := rfl
@[simp] theorem clearCounters_cfg : (clearCounters s).cfg = s.cfg := rfl
@[simp] theorem clearCounters_enable : (clearCounters s).enable = s.enable := rfl
@[simp] theorem clearCounters_irqEn : (clearCounters s).irqEn = s.irqEn := rfl
@[simp] theorem clearCounters_cfgErr : (clearCounters s).cfgErr = s.cfgErr := rfl
@[simp] theorem clearCounters_ed : (clearCounters s).ed = s.ed := rfl
@[simp] theorem clearCounters_pt : (clearCounters s).pt = s.pt := rfl
@[simp] theorem clearCounters_br : (clearCounters s).br = s.br := rfl
@[simp] theorem clearCounters_out : (clearCounters s).out = s.out := rfl
@[simp] theorem clearCounters_cnt : (clearCounters s).cnt = Counters.reset := rfl
@[simp] theorem clearCounters_sampleIndex : (clearCounters s).sampleIndex = s.sampleIndex := rfl
@[simp] theorem clearCounters_inputs : (clearCounters s).inputs = s.inputs := rfl
@[simp] theorem clearCounters_readLog : (clearCounters s).readLog = s.readLog := rfl

/-! ### `softReset` -/

@[simp] theorem softReset_params : (softReset s).params = s.params := rfl
@[simp] theorem softReset_cfg : (softReset s).cfg = s.cfg := rfl
@[simp] theorem softReset_enable : (softReset s).enable = s.enable := rfl
@[simp] theorem softReset_irqEn : (softReset s).irqEn = s.irqEn := rfl
@[simp] theorem softReset_cfgErr : (softReset s).cfgErr = false := rfl
@[simp] theorem softReset_ed : (softReset s).ed = EnergyDetector.reset := rfl
@[simp] theorem softReset_pt : (softReset s).pt = PulseTimer.reset := rfl
@[simp] theorem softReset_br : (softReset s).br = BitRecoverer.reset := rfl
@[simp] theorem softReset_out : (softReset s).out = ResultReg.reset := rfl
@[simp] theorem softReset_cnt : (softReset s).cnt = Counters.reset := rfl
@[simp] theorem softReset_sampleIndex : (softReset s).sampleIndex = s.sampleIndex := rfl
@[simp] theorem softReset_inputs : (softReset s).inputs = s.inputs := rfl
@[simp] theorem softReset_readLog : (softReset s).readLog = s.readLog := rfl

/-! ### `hardReset` -/

@[simp] theorem hardReset_params : (hardReset s).params = s.params := rfl
@[simp] theorem hardReset_cfg : (hardReset s).cfg = CfgRegs.reset := rfl
@[simp] theorem hardReset_enable : (hardReset s).enable = false := rfl
@[simp] theorem hardReset_irqEn : (hardReset s).irqEn = false := rfl
@[simp] theorem hardReset_cfgErr : (hardReset s).cfgErr = false := rfl
@[simp] theorem hardReset_ed : (hardReset s).ed = EnergyDetector.reset := rfl
@[simp] theorem hardReset_pt : (hardReset s).pt = PulseTimer.reset := rfl
@[simp] theorem hardReset_br : (hardReset s).br = BitRecoverer.reset := rfl
@[simp] theorem hardReset_out : (hardReset s).out = ResultReg.reset := rfl
@[simp] theorem hardReset_cnt : (hardReset s).cnt = Counters.reset := rfl
@[simp] theorem hardReset_sampleIndex : (hardReset s).sampleIndex = 0 := rfl
@[simp] theorem hardReset_inputs : (hardReset s).inputs = s.inputs := rfl
@[simp] theorem hardReset_readLog : (hardReset s).readLog = s.readLog := rfl

/-! ### `respond` -/

@[simp] theorem respond_params (v : Word) : (respond v s).params = s.params := rfl
@[simp] theorem respond_cfg (v : Word) : (respond v s).cfg = s.cfg := rfl
@[simp] theorem respond_enable (v : Word) : (respond v s).enable = s.enable := rfl
@[simp] theorem respond_irqEn (v : Word) : (respond v s).irqEn = s.irqEn := rfl
@[simp] theorem respond_cfgErr (v : Word) : (respond v s).cfgErr = s.cfgErr := rfl
@[simp] theorem respond_ed (v : Word) : (respond v s).ed = s.ed := rfl
@[simp] theorem respond_pt (v : Word) : (respond v s).pt = s.pt := rfl
@[simp] theorem respond_br (v : Word) : (respond v s).br = s.br := rfl
@[simp] theorem respond_out (v : Word) : (respond v s).out = s.out := rfl
@[simp] theorem respond_cnt (v : Word) : (respond v s).cnt = s.cnt := rfl
@[simp] theorem respond_sampleIndex (v : Word) : (respond v s).sampleIndex = s.sampleIndex := rfl
@[simp] theorem respond_inputs (v : Word) : (respond v s).inputs = s.inputs := rfl
@[simp] theorem respond_readLog (v : Word) : (respond v s).readLog = v :: s.readLog := rfl

/-! ### `withInputs` -/

@[simp] theorem withInputs_params (rest : List ClockInput) : (withInputs rest s).params = s.params := rfl
@[simp] theorem withInputs_cfg (rest : List ClockInput) : (withInputs rest s).cfg = s.cfg := rfl
@[simp] theorem withInputs_enable (rest : List ClockInput) : (withInputs rest s).enable = s.enable := rfl
@[simp] theorem withInputs_irqEn (rest : List ClockInput) : (withInputs rest s).irqEn = s.irqEn := rfl
@[simp] theorem withInputs_cfgErr (rest : List ClockInput) : (withInputs rest s).cfgErr = s.cfgErr := rfl
@[simp] theorem withInputs_ed (rest : List ClockInput) : (withInputs rest s).ed = s.ed := rfl
@[simp] theorem withInputs_pt (rest : List ClockInput) : (withInputs rest s).pt = s.pt := rfl
@[simp] theorem withInputs_br (rest : List ClockInput) : (withInputs rest s).br = s.br := rfl
@[simp] theorem withInputs_out (rest : List ClockInput) : (withInputs rest s).out = s.out := rfl
@[simp] theorem withInputs_cnt (rest : List ClockInput) : (withInputs rest s).cnt = s.cnt := rfl
@[simp] theorem withInputs_sampleIndex (rest : List ClockInput) :
    (withInputs rest s).sampleIndex = s.sampleIndex := rfl
@[simp] theorem withInputs_inputs (rest : List ClockInput) : (withInputs rest s).inputs = rest := rfl
@[simp] theorem withInputs_readLog (rest : List ClockInput) : (withInputs rest s).readLog = s.readLog := rfl

/-! ### `setIrqEn` -/

@[simp] theorem setIrqEn_params (b : Bool) : (setIrqEn b s).params = s.params := rfl
@[simp] theorem setIrqEn_cfg (b : Bool) : (setIrqEn b s).cfg = s.cfg := rfl
@[simp] theorem setIrqEn_enable (b : Bool) : (setIrqEn b s).enable = s.enable := rfl
@[simp] theorem setIrqEn_irqEn (b : Bool) : (setIrqEn b s).irqEn = b := rfl
@[simp] theorem setIrqEn_cfgErr (b : Bool) : (setIrqEn b s).cfgErr = s.cfgErr := rfl
@[simp] theorem setIrqEn_ed (b : Bool) : (setIrqEn b s).ed = s.ed := rfl
@[simp] theorem setIrqEn_pt (b : Bool) : (setIrqEn b s).pt = s.pt := rfl
@[simp] theorem setIrqEn_br (b : Bool) : (setIrqEn b s).br = s.br := rfl
@[simp] theorem setIrqEn_out (b : Bool) : (setIrqEn b s).out = s.out := rfl
@[simp] theorem setIrqEn_cnt (b : Bool) : (setIrqEn b s).cnt = s.cnt := rfl
@[simp] theorem setIrqEn_sampleIndex (b : Bool) : (setIrqEn b s).sampleIndex = s.sampleIndex := rfl
@[simp] theorem setIrqEn_inputs (b : Bool) : (setIrqEn b s).inputs = s.inputs := rfl
@[simp] theorem setIrqEn_readLog (b : Bool) : (setIrqEn b s).readLog = s.readLog := rfl

/-! ### `consumeFrame` -/

@[simp] theorem consumeFrame_params : (consumeFrame s).params = s.params := rfl
@[simp] theorem consumeFrame_cfg : (consumeFrame s).cfg = s.cfg := rfl
@[simp] theorem consumeFrame_enable : (consumeFrame s).enable = s.enable := rfl
@[simp] theorem consumeFrame_irqEn : (consumeFrame s).irqEn = s.irqEn := rfl
@[simp] theorem consumeFrame_cfgErr : (consumeFrame s).cfgErr = s.cfgErr := rfl
@[simp] theorem consumeFrame_ed : (consumeFrame s).ed = s.ed := rfl
@[simp] theorem consumeFrame_pt : (consumeFrame s).pt = s.pt := rfl
@[simp] theorem consumeFrame_br : (consumeFrame s).br = s.br := rfl
@[simp] theorem consumeFrame_out : (consumeFrame s).out = { s.out with valid := false } := rfl
@[simp] theorem consumeFrame_cnt : (consumeFrame s).cnt = s.cnt := rfl
@[simp] theorem consumeFrame_sampleIndex : (consumeFrame s).sampleIndex = s.sampleIndex := rfl
@[simp] theorem consumeFrame_inputs : (consumeFrame s).inputs = s.inputs := rfl
@[simp] theorem consumeFrame_readLog : (consumeFrame s).readLog = s.readLog := rfl

/-! ### `acceptFrame` -/

@[simp] theorem acceptFrame_params (id : BitVec 24) (st : BitVec 8) (ck : BitVec 16) :
    (acceptFrame id st ck s).params = s.params := rfl
@[simp] theorem acceptFrame_cfg (id : BitVec 24) (st : BitVec 8) (ck : BitVec 16) :
    (acceptFrame id st ck s).cfg = s.cfg := rfl
@[simp] theorem acceptFrame_enable (id : BitVec 24) (st : BitVec 8) (ck : BitVec 16) :
    (acceptFrame id st ck s).enable = s.enable := rfl
@[simp] theorem acceptFrame_irqEn (id : BitVec 24) (st : BitVec 8) (ck : BitVec 16) :
    (acceptFrame id st ck s).irqEn = s.irqEn := rfl
@[simp] theorem acceptFrame_cfgErr (id : BitVec 24) (st : BitVec 8) (ck : BitVec 16) :
    (acceptFrame id st ck s).cfgErr = s.cfgErr := rfl
@[simp] theorem acceptFrame_ed (id : BitVec 24) (st : BitVec 8) (ck : BitVec 16) :
    (acceptFrame id st ck s).ed = s.ed := rfl
@[simp] theorem acceptFrame_pt (id : BitVec 24) (st : BitVec 8) (ck : BitVec 16) :
    (acceptFrame id st ck s).pt = s.pt := rfl
@[simp] theorem acceptFrame_br (id : BitVec 24) (st : BitVec 8) (ck : BitVec 16) :
    (acceptFrame id st ck s).br = s.br := rfl
@[simp] theorem acceptFrame_out (id : BitVec 24) (st : BitVec 8) (ck : BitVec 16) :
    (acceptFrame id st ck s).out = { valid := true, id := id, st := st, ck := ck } := rfl
@[simp] theorem acceptFrame_cnt (id : BitVec 24) (st : BitVec 8) (ck : BitVec 16) :
    (acceptFrame id st ck s).cnt = s.cnt.countOk s.out.valid := rfl
@[simp] theorem acceptFrame_sampleIndex (id : BitVec 24) (st : BitVec 8) (ck : BitVec 16) :
    (acceptFrame id st ck s).sampleIndex = s.sampleIndex := rfl
@[simp] theorem acceptFrame_inputs (id : BitVec 24) (st : BitVec 8) (ck : BitVec 16) :
    (acceptFrame id st ck s).inputs = s.inputs := rfl
@[simp] theorem acceptFrame_readLog (id : BitVec 24) (st : BitVec 8) (ck : BitVec 16) :
    (acceptFrame id st ck s).readLog = s.readLog := rfl

/-! ### `rejectFrame` -/

@[simp] theorem rejectFrame_params : (rejectFrame s).params = s.params := rfl
@[simp] theorem rejectFrame_cfg : (rejectFrame s).cfg = s.cfg := rfl
@[simp] theorem rejectFrame_enable : (rejectFrame s).enable = s.enable := rfl
@[simp] theorem rejectFrame_irqEn : (rejectFrame s).irqEn = s.irqEn := rfl
@[simp] theorem rejectFrame_cfgErr : (rejectFrame s).cfgErr = s.cfgErr := rfl
@[simp] theorem rejectFrame_ed : (rejectFrame s).ed = s.ed := rfl
@[simp] theorem rejectFrame_pt : (rejectFrame s).pt = s.pt := rfl
@[simp] theorem rejectFrame_br : (rejectFrame s).br = s.br := rfl
@[simp] theorem rejectFrame_out : (rejectFrame s).out = s.out := rfl
@[simp] theorem rejectFrame_cnt : (rejectFrame s).cnt = s.cnt.countCkFail := rfl
@[simp] theorem rejectFrame_sampleIndex : (rejectFrame s).sampleIndex = s.sampleIndex := rfl
@[simp] theorem rejectFrame_inputs : (rejectFrame s).inputs = s.inputs := rfl
@[simp] theorem rejectFrame_readLog : (rejectFrame s).readLog = s.readLog := rfl

/-! ### `framingError` -/

@[simp] theorem framingError_params : (framingError s).params = s.params := rfl
@[simp] theorem framingError_cfg : (framingError s).cfg = s.cfg := rfl
@[simp] theorem framingError_enable : (framingError s).enable = s.enable := rfl
@[simp] theorem framingError_irqEn : (framingError s).irqEn = s.irqEn := rfl
@[simp] theorem framingError_cfgErr : (framingError s).cfgErr = s.cfgErr := rfl
@[simp] theorem framingError_ed : (framingError s).ed = s.ed := rfl
@[simp] theorem framingError_pt : (framingError s).pt = s.pt := rfl
@[simp] theorem framingError_br : (framingError s).br = { s.br with st := .idle, nbits := 0, buf := 0 } := rfl
@[simp] theorem framingError_out : (framingError s).out = s.out := rfl
@[simp] theorem framingError_cnt : (framingError s).cnt = s.cnt.countFrmErr := rfl
@[simp] theorem framingError_sampleIndex : (framingError s).sampleIndex = s.sampleIndex := rfl
@[simp] theorem framingError_inputs : (framingError s).inputs = s.inputs := rfl
@[simp] theorem framingError_readLog : (framingError s).readLog = s.readLog := rfl

/-! ### `timeBeat` -/

@[simp] theorem timeBeat_params (i q : Int) : (timeBeat i q s).params = s.params := rfl
@[simp] theorem timeBeat_cfg (i q : Int) : (timeBeat i q s).cfg = s.cfg := rfl
@[simp] theorem timeBeat_enable (i q : Int) : (timeBeat i q s).enable = s.enable := rfl
@[simp] theorem timeBeat_irqEn (i q : Int) : (timeBeat i q s).irqEn = s.irqEn := rfl
@[simp] theorem timeBeat_cfgErr (i q : Int) : (timeBeat i q s).cfgErr = s.cfgErr := rfl
@[simp] theorem timeBeat_ed (i q : Int) : (timeBeat i q s).ed = energyDetector s.cfg (power i q) s.ed := rfl
@[simp] theorem timeBeat_pt (i q : Int) :
    (timeBeat i q s).pt = (pulseTimer s.cfg.minPulse (detect (power i q) s.ed.hist s.cfg.thrFactor) s.pt).1 := rfl
@[simp] theorem timeBeat_br (i q : Int) : (timeBeat i q s).br = s.br := rfl
@[simp] theorem timeBeat_out (i q : Int) : (timeBeat i q s).out = s.out := rfl
@[simp] theorem timeBeat_cnt (i q : Int) : (timeBeat i q s).cnt = s.cnt := rfl
@[simp] theorem timeBeat_sampleIndex (i q : Int) : (timeBeat i q s).sampleIndex = s.sampleIndex + 1 := rfl
@[simp] theorem timeBeat_inputs (i q : Int) : (timeBeat i q s).inputs = s.inputs := rfl
@[simp] theorem timeBeat_readLog (i q : Int) : (timeBeat i q s).readLog = s.readLog := rfl

end Sys2Proof.Machine
end

