-- ==== Sys2Proof/Laws/Ops.lean ====
section
/-! SUPPORT. What each shared operation can do, said once: configuration writes, the enable part of WR_CTRL, the next
operation from the ports, and `exec` and `step` arm by arm. -/

namespace Sys2Proof.Machine

/-! ### Configuration writes (44_host_ops.md R205) -/

theorem writeCfg_of_enabled {s : State} (h : s.enable = true) (set : CfgRegs → CfgRegs) :
    writeCfg set s = { s with cfgErr := true } := by simp [writeCfg, h]

theorem writeCfg_of_disabled {s : State} (h : s.enable = false) (set : CfgRegs → CfgRegs) :
    writeCfg set s = { s with cfg := set s.cfg } := by simp [writeCfg, h]

/-- A configuration write changes CFG_ERR or the configuration, by the value of ENABLE, and nothing else. -/
theorem writeCfg_cases (set : CfgRegs → CfgRegs) (s : State) :
    (s.enable = true ∧ writeCfg set s = { s with cfgErr := true }) ∨
    (s.enable = false ∧ writeCfg set s = { s with cfg := set s.cfg }) := by
  rcases Bool.eq_false_or_eq_true s.enable with h | h
  · exact .inl ⟨h, writeCfg_of_enabled h set⟩
  · exact .inr ⟨h, writeCfg_of_disabled h set⟩

/-! ### The enable part of WR_CTRL (44_host_ops.md R201) -/

/-- A write of CTRL disables, finds the core enabled, enables and restarts it, or is refused. -/
theorem setEnable_cases (e : Bool) (s : State) :
    (e = false ∧ setEnable e s = { s with enable := false }) ∨
    (e = true ∧ s.enable = true ∧ setEnable e s = s) ∨
    (e = true ∧ s.enable = false ∧ s.cfg.valid s.params = true ∧ setEnable e s = restart { s with enable := true }) ∨
    (e = true ∧ s.enable = false ∧ s.cfg.valid s.params = false ∧ setEnable e s = { s with cfgErr := true }) := by
  unfold setEnable
  cases e <;> cases h : s.enable <;> cases hv : s.cfg.valid s.params <;> simp

theorem reservedRead_eq (s : State) : reservedRead s = respond 0 s := rfl
theorem reservedWrite_eq (s : State) : reservedWrite s = s := rfl
theorem softResetIf_true (s : State) : softResetIf true s = softReset s := rfl
theorem softResetIf_false (s : State) : softResetIf false s = s := rfl
theorem clearCountersIf_true (s : State) : clearCountersIf true s = clearCounters s := rfl
theorem clearCountersIf_false (s : State) : clearCountersIf false s = s := rfl

/-! ### The next operation (20_memory.md R69) -/

theorem nextOp_nil : nextOp [] = .idle [] := rfl
theorem nextOp_reset (rest : List ClockInput) : nextOp (.reset :: rest) = .reset rest := rfl
theorem nextOp_none (rest : List ClockInput) : nextOp (.clock none none :: rest) = .idle rest := rfl
theorem nextOp_beat (b : BeatWord) (rest : List ClockInput) :
    nextOp (.clock none (some b) :: rest) = .word (.beat b) rest := rfl
theorem nextOp_host (h : HostAccess) (rest : List ClockInput) :
    nextOp (.clock (some h) none :: rest) = .word (.host h.cmd h.data) rest := rfl
theorem nextOp_host_beat (h : HostAccess) (b : BeatWord) (rest : List ClockInput) :
    nextOp (.clock (some h) (some b) :: rest) = .word (.host h.cmd h.data) (.clock none (some b) :: rest) := rfl

/-- The clock of one operation offers that operation. -/
theorem nextOp_clockOf (w : PortWord) (rest : List ClockInput) : nextOp (clockOf w :: rest) = .word w rest := by
  cases w <;> rfl

/-! ### The step (00_scope.md R13) -/

/-- Everything a step can be: idle, the reset pin, a reserved command, or one decoded operation. -/
theorem step_cases (s : State) :
    (∃ rest, nextOp s.inputs = .idle rest ∧ step s = .next (withInputs rest s)) ∨
    (∃ rest, nextOp s.inputs = .reset rest ∧ step s = .next (hardReset (withInputs rest s))) ∨
    (∃ w rest, nextOp s.inputs = .word w rest ∧ decode s.params w = .reservedRead ∧
      step s = .next (reservedRead (withInputs rest s))) ∨
    (∃ w rest, nextOp s.inputs = .word w rest ∧ decode s.params w = .reservedWrite ∧
      step s = .next (reservedWrite (withInputs rest s))) ∨
    (∃ w rest i, nextOp s.inputs = .word w rest ∧ decode s.params w = .op i ∧
      step s = exec i (withInputs rest s)) := by
  unfold step
  rcases h : nextOp s.inputs with rest | rest | ⟨w, rest⟩
  · exact .inl ⟨rest, rfl, rfl⟩
  · exact .inr (.inl ⟨rest, rfl, rfl⟩)
  · rcases hd : decode s.params w with i | _ | _
    · exact .inr (.inr (.inr (.inr ⟨w, rest, i, rfl, hd, by simp [hd]⟩)))
    · exact .inr (.inr (.inl ⟨w, rest, rfl, hd, by simp [hd]⟩))
    · exact .inr (.inr (.inr (.inl ⟨w, rest, rfl, hd, by simp [hd]⟩)))

/-- A step on an operation that decodes. -/
theorem step_of_decode {s : State} {w : PortWord} {rest : List ClockInput} {i : Instr}
    (hn : nextOp s.inputs = .word w rest) (hd : decode s.params w = .op i) :
    step s = exec i (withInputs rest s) := by simp [step, hn, hd]

end Sys2Proof.Machine
end

