-- ==== Sys2Proof/Laws/Datapath.lean ====
section
/-! SUPPORT. What each stage of the pipeline can do, said once. -/

namespace Sys2Proof.Machine

/-! ### The pulse timer (41_pulse_timer.md R121 to R123) -/

theorem pulseTimer_first (m : BitVec 16) (c : Bool) {pt : PulseTimer} (h : pt.started = false) :
    pulseTimer m c pt = (⟨true, c, 1, 0⟩, none) := by simp [pulseTimer, h]

theorem pulseTimer_same (m : BitVec 16) {c : Bool} {pt : PulseTimer} (h : pt.started = true) (hc : c = pt.level) :
    pulseTimer m c pt = ({ pt with count := sat16 (pt.count.toNat + pt.glitch.toNat + 1), glitch := 0 }, none) := by
  simp [pulseTimer, h, hc]

theorem pulseTimer_glitch {m : BitVec 16} {c : Bool} {pt : PulseTimer} (h : pt.started = true) (hc : c ≠ pt.level)
    (hg : pt.glitch.toNat + 1 < m.toNat) :
    pulseTimer m c pt = ({ pt with glitch := BitVec.ofNat 16 (pt.glitch.toNat + 1) }, none) := by
  simp [pulseTimer, h, hc]; omega

theorem pulseTimer_ends {m : BitVec 16} {c : Bool} {pt : PulseTimer} (h : pt.started = true) (hc : c ≠ pt.level)
    (hg : ¬ pt.glitch.toNat + 1 < m.toNat) :
    pulseTimer m c pt =
      ({ pt with level := c, count := BitVec.ofNat 16 (pt.glitch.toNat + 1), glitch := 0 },
        some ⟨pt.level, pt.count⟩) := by
  simp [pulseTimer, h, hc]; omega

theorem sat16_toNat (n : Nat) : (sat16 n).toNat = min 65535 n := by
  simp only [sat16, durMax, BitVec.toNat_ofNat]; omega

/-! ### The frame validator (43_frame_validator.md R170 to R175) -/

/-- A complete buffer is accepted or rejected, by its checksum. -/
theorem validate_cases (buf : BitVec 48) (s : State) :
    (crc s.cfg (frameData s.cfg buf) = frameCk s.cfg buf ∧
      validate buf s = acceptFrame (field (frameData s.cfg buf) 8 24) (field (frameData s.cfg buf) 0 8)
        (frameCk s.cfg buf) s) ∨
    (crc s.cfg (frameData s.cfg buf) ≠ frameCk s.cfg buf ∧ validate buf s = rejectFrame s) := by
  unfold validate
  split
  · exact .inl ⟨‹_›, rfl⟩
  · exact .inr ⟨‹_›, rfl⟩

/-- The validator reads the configuration, the result and the counters, and writes the last two. -/
theorem validate_eq (buf : BitVec 48) (s : State) :
    validate buf s = { s with out := (validate buf s).out, cnt := (validate buf s).cnt } := by
  rcases validate_cases buf s with ⟨-, h⟩ | ⟨-, h⟩ <;> rw [h] <;> rfl

/-! ### The bit recoverer (42_bit_recoverer.md R140 to R150) -/

theorem bitRecoverer_idle {s : State} (h : s.br.st = .idle) (pulse : Pulse) :
    bitRecoverer pulse s = { s with br := matchPreamble s.cfg pulse.duration s.br } := by simp [bitRecoverer, h]

theorem bitRecoverer_sync {s : State} (h : s.br.st = .sync) (pulse : Pulse) :
    bitRecoverer pulse s = { s with br := matchPreamble s.cfg pulse.duration s.br } := by simp [bitRecoverer, h]

theorem bitRecoverer_receiving {s : State} (h : s.br.st = .receiving) (pulse : Pulse) :
    bitRecoverer pulse s = receivePulse pulse.duration s := by simp [bitRecoverer, h]

/-- Everything a pulse can do: move the preamble match, a framing error, one more bit, or a complete frame. -/
theorem bitRecoverer_cases (pulse : Pulse) (s : State) :
    ((s.br.st = .idle ∨ s.br.st = .sync) ∧
      bitRecoverer pulse s = { s with br := matchPreamble s.cfg pulse.duration s.br }) ∨
    (s.br.st = .receiving ∧ classify s.cfg pulse.duration = none ∧ bitRecoverer pulse s = framingError s) ∨
    (∃ b, s.br.st = .receiving ∧ classify s.cfg pulse.duration = some b ∧ s.br.nbits.toNat + 1 ≠ s.cfg.frameLen ∧
      bitRecoverer pulse s = { s with br := { s.br with nbits := s.br.nbits + 1, buf := appendBit s.br.buf b } }) ∨
    (∃ b, s.br.st = .receiving ∧ classify s.cfg pulse.duration = some b ∧ s.br.nbits.toNat + 1 = s.cfg.frameLen ∧
      bitRecoverer pulse s =
        { validate (appendBit s.br.buf b) s with br := BitRecoverer.reset }) ∨
    (s.br.st = .frameReady ∧ bitRecoverer pulse s = s) := by
  rcases h : s.br.st with _ | _ | _ | _
  · exact .inl ⟨.inl rfl, bitRecoverer_idle h pulse⟩
  · exact .inl ⟨.inr rfl, bitRecoverer_sync h pulse⟩
  · rcases hc : classify s.cfg pulse.duration with _ | b
    · exact .inr (.inl ⟨rfl, rfl, by simp [bitRecoverer, h, receivePulse, hc]⟩)
    · by_cases hn : s.br.nbits.toNat + 1 = s.cfg.frameLen
      · refine .inr (.inr (.inr (.inl ⟨b, rfl, rfl, hn, ?_⟩)))
        simp only [bitRecoverer, h, receivePulse, hc, receiveBit, if_pos hn, BitRecoverer.reset]
        rcases validate_cases (appendBit s.br.buf b) s with ⟨hv, hs⟩ | ⟨hv, hs⟩ <;>
          rw [hs] <;> simp [validate, hv, acceptFrame, rejectFrame]
      · exact .inr (.inr (.inl ⟨b, rfl, rfl, hn, by simp [bitRecoverer, h, receivePulse, hc, receiveBit, hn]⟩))
  · exact .inr (.inr (.inr (.inr ⟨rfl, by simp [bitRecoverer, h]⟩)))

/-- A pulse changes the bit recoverer, the result and the counters, and nothing else. -/
theorem bitRecoverer_eq (pulse : Pulse) (s : State) :
    bitRecoverer pulse s = { s with
      br := (bitRecoverer pulse s).br, out := (bitRecoverer pulse s).out, cnt := (bitRecoverer pulse s).cnt } := by
  rcases bitRecoverer_cases pulse s with ⟨-, h⟩ | ⟨-, -, h⟩ | ⟨b, -, -, -, h⟩ | ⟨b, -, -, -, h⟩ | ⟨-, h⟩ <;> rw [h]
  · rfl
  · rw [validate_eq]

/-- What a pulse leaves unchanged. -/
theorem bitRecoverer_frame (pulse : Pulse) (s : State) :
    (bitRecoverer pulse s).params = s.params ∧ (bitRecoverer pulse s).cfg = s.cfg ∧
      (bitRecoverer pulse s).enable = s.enable ∧ (bitRecoverer pulse s).irqEn = s.irqEn ∧
      (bitRecoverer pulse s).cfgErr = s.cfgErr ∧ (bitRecoverer pulse s).ed = s.ed ∧
      (bitRecoverer pulse s).pt = s.pt ∧ (bitRecoverer pulse s).sampleIndex = s.sampleIndex ∧
      (bitRecoverer pulse s).inputs = s.inputs ∧ (bitRecoverer pulse s).readLog = s.readLog := by
  rw [bitRecoverer_eq]; exact ⟨rfl, rfl, rfl, rfl, rfl, rfl, rfl, rfl, rfl, rfl⟩

/-- The validator's verdict depends on the configuration, the result and the counters alone. -/
theorem validate_congr {s s' : State} (buf : BitVec 48) (hc : s'.cfg = s.cfg) (ho : s'.out = s.out)
    (hn : s'.cnt = s.cnt) :
    (validate buf s').out = (validate buf s).out ∧ (validate buf s').cnt = (validate buf s).cnt := by
  unfold validate
  rw [hc]
  split
  · simp [ho, hn]
  · simp [ho, hn]

/-- What a pulse does to the recoverer, the result and the counters depends on those and the configuration alone. -/
theorem bitRecoverer_congr {s s' : State} (pulse : Pulse) (hc : s'.cfg = s.cfg) (hb : s'.br = s.br)
    (ho : s'.out = s.out) (hn : s'.cnt = s.cnt) :
    (bitRecoverer pulse s').br = (bitRecoverer pulse s).br ∧ (bitRecoverer pulse s').out = (bitRecoverer pulse s).out ∧
      (bitRecoverer pulse s').cnt = (bitRecoverer pulse s).cnt := by
  unfold bitRecoverer
  rw [hb]
  cases s.br.st with
  | idle | sync | frameReady => simp [hb, hc, ho, hn]
  | receiving =>
    unfold receivePulse
    rw [hc]
    cases classify s.cfg pulse.duration with
    | none => simp [hb, ho, hn]
    | some b =>
      simp only [receiveBit, hb, hc]
      split
      · exact ⟨rfl, validate_congr _ rfl ho hn⟩
      · exact ⟨rfl, ho, hn⟩

/-! ### One accepted beat (40_sample_path.md R100) -/

/-- A beat is timed, and a pulse it ends reaches the bit recoverer. -/
theorem acceptBeat_cases (i q : Int) (s : State) :
    (endedPulse i q s = none ∧ acceptBeat i q s = timeBeat i q s) ∨
    (∃ pulse, endedPulse i q s = some pulse ∧ acceptBeat i q s = bitRecoverer pulse (timeBeat i q s)) := by
  unfold acceptBeat
  rcases h : endedPulse i q s with _ | pulse
  · exact .inl ⟨rfl, rfl⟩
  · exact .inr ⟨pulse, rfl, rfl⟩

/-- The fields of a beat that the bit recoverer does not reach. -/
theorem acceptBeat_frame (i q : Int) (s : State) :
    (acceptBeat i q s).params = s.params ∧ (acceptBeat i q s).cfg = s.cfg ∧ (acceptBeat i q s).enable = s.enable ∧
      (acceptBeat i q s).irqEn = s.irqEn ∧ (acceptBeat i q s).cfgErr = s.cfgErr ∧
      (acceptBeat i q s).ed = (timeBeat i q s).ed ∧ (acceptBeat i q s).pt = (timeBeat i q s).pt ∧
      (acceptBeat i q s).sampleIndex = s.sampleIndex + 1 ∧ (acceptBeat i q s).inputs = s.inputs ∧
      (acceptBeat i q s).readLog = s.readLog := by
  rcases acceptBeat_cases i q s with ⟨-, h⟩ | ⟨pulse, -, h⟩
  · rw [h]; exact ⟨rfl, rfl, rfl, rfl, rfl, rfl, rfl, rfl, rfl, rfl⟩
  · rw [h]; exact bitRecoverer_frame pulse (timeBeat i q s)

end Sys2Proof.Machine
end

