-- ==== Sys2Proof/Laws/Exec.lean ====
section
/-! SUPPORT. What `exec` can do, said once: every operation answers a next state, and it is a beat, a write of CTRL, a
read, a configuration write, a write of STATUS, or nothing. -/

namespace Sys2Proof.Machine

/-- The state after a write of CTRL (44_host_ops.md R201). -/
def afterWrCtrl (v : Word) (s : State) : State :=
  setEnable (v.getLsbD 0) (setIrqEn (v.getLsbD 3) (clearCountersIf (v.getLsbD 2) (softResetIf (v.getLsbD 1) s)))

theorem execWrCtrl_eq (v : Word) (s : State) : exec (.wrCtrl v) s = .next (afterWrCtrl v s) := rfl

theorem execSmp_of_enabled {s : State} (h : s.enable = true) (i q : Int) :
    exec (.smp i q) s = .next (acceptBeat i q s) := by
  show execSmp i q s = _
  simp [execSmp, h]

theorem execSmp_of_disabled {s : State} (h : s.enable = false) (i q : Int) : exec (.smp i q) s = .next s := by
  show execSmp i q s = _
  simp [execSmp, h]

/-- Every operation, by what it does: the one inversion lemma of `exec`. -/
theorem exec_cases (i : Instr) (s : State) :
    (∃ a b, i = .smp a b ∧ s.enable = true ∧ exec i s = .next (acceptBeat a b s)) ∨
    (∃ v, i = .wrCtrl v ∧ exec i s = .next (afterWrCtrl v s)) ∨
    (∃ v, i = .wrStatus v ∧ exec i s = .next (if v.getLsbD 3 then { s with cfgErr := false } else s)) ∨
    (i = .rdOutFrame ∧ exec i s = .next (consumeFrame (respond s.outFrame s))) ∨
    ((∀ a b, i ≠ .smp a b) ∧ (∀ v, i ≠ .wrCtrl v) ∧ ∃ v, exec i s = .next (respond v s)) ∨
    ((∀ a b, i ≠ .smp a b) ∧ (∀ v, i ≠ .wrCtrl v) ∧ ∃ set, exec i s = .next (writeCfg set s)) ∨
    ((∀ v, i ≠ .wrCtrl v) ∧ ((∀ a b, i ≠ .smp a b) ∨ s.enable = false) ∧ exec i s = .next s) := by
  cases i
  case smp a b =>
    cases h : s.enable
    · exact .inr (.inr (.inr (.inr (.inr (.inr ⟨by simp, .inr rfl, execSmp_of_disabled h a b⟩)))))
    · exact .inl ⟨a, b, rfl, rfl, execSmp_of_enabled h a b⟩
  case wrCtrl v => exact .inr (.inl ⟨v, rfl, rfl⟩)
  case wrStatus v => exact .inr (.inr (.inl ⟨v, rfl, rfl⟩))
  case rdOutFrame => exact .inr (.inr (.inr (.inl ⟨rfl, rfl⟩)))
  case rdCtrl | rdStatus | rdEdCfg | rdPtCfg | rdBrNom | rdBrCfg | rdPrePat | rdCkCfg | rdCkPoly | rdCkXor | rdOutAux |
      rdCntOk | rdCntCkFail | rdCntFrmErr | rdCntOvwr =>
    exact .inr (.inr (.inr (.inr (.inl ⟨by simp, by simp, _, rfl⟩))))
  case wrEdCfg | wrPtCfg | wrBrNom | wrBrCfg | wrPrePat | wrCkCfg | wrCkPoly | wrCkXor =>
    exact .inr (.inr (.inr (.inr (.inr (.inl ⟨by simp, by simp, _, rfl⟩)))))
  case wrOutFrame | wrOutAux | wrCntOk | wrCntCkFail | wrCntFrmErr | wrCntOvwr =>
    exact .inr (.inr (.inr (.inr (.inr (.inr ⟨by simp, .inl (by simp), rfl⟩)))))

/-- The write of CTRL in one piece, field by field of what its parts do. -/
theorem afterWrCtrl_frame (v : Word) (s : State) :
    (afterWrCtrl v s).params = s.params ∧ (afterWrCtrl v s).cfg = s.cfg ∧
      (afterWrCtrl v s).sampleIndex = s.sampleIndex ∧ (afterWrCtrl v s).inputs = s.inputs ∧
      (afterWrCtrl v s).readLog = s.readLog := by
  unfold afterWrCtrl
  cases v.getLsbD 1 <;> cases v.getLsbD 2 <;>
    rcases setEnable_cases (v.getLsbD 0) (setIrqEn (v.getLsbD 3) (clearCountersIf _ (softResetIf _ s))) with
      ⟨-, h⟩ | ⟨-, -, h⟩ | ⟨-, -, -, h⟩ | ⟨-, -, -, h⟩ <;>
    rw [h] <;> exact ⟨rfl, rfl, rfl, rfl, rfl⟩

end Sys2Proof.Machine
end

