-- ==== Sys2Proof/Laws/PerInstr.lean ====
section
/-! SUPPORT. Statements about every operation as syntax, one lemma per constructor. -/

namespace Sys2Proof.Laws.EncodeFormat

/-- An operation encodes on its own port, a host operation with RSV = 000 (30_encoding.md R80, R83). -/
def Statement (i : Instr) : Prop :=
  ∀ p : Params, match i, encode p i with
    | .smp _ _, .beat _ => True
    | .smp _ _, .host _ _ => False
    | _, .host c _ => c.extractLsb' 4 3 = 0
    | _, .beat _ => False

theorem smp (i q : Int) : Statement (.smp i q) := fun _ => trivial
theorem rdCtrl : Statement .rdCtrl := fun _ => rfl
theorem wrCtrl (v : Word) : Statement (.wrCtrl v) := fun _ => rfl
theorem rdStatus : Statement .rdStatus := fun _ => rfl
theorem wrStatus (v : Word) : Statement (.wrStatus v) := fun _ => rfl
theorem rdEdCfg : Statement .rdEdCfg := fun _ => rfl
theorem wrEdCfg (v : Word) : Statement (.wrEdCfg v) := fun _ => rfl
theorem rdPtCfg : Statement .rdPtCfg := fun _ => rfl
theorem wrPtCfg (v : Word) : Statement (.wrPtCfg v) := fun _ => rfl
theorem rdBrNom : Statement .rdBrNom := fun _ => rfl
theorem wrBrNom (v : Word) : Statement (.wrBrNom v) := fun _ => rfl
theorem rdBrCfg : Statement .rdBrCfg := fun _ => rfl
theorem wrBrCfg (v : Word) : Statement (.wrBrCfg v) := fun _ => rfl
theorem rdPrePat : Statement .rdPrePat := fun _ => rfl
theorem wrPrePat (v : Word) : Statement (.wrPrePat v) := fun _ => rfl
theorem rdCkCfg : Statement .rdCkCfg := fun _ => rfl
theorem wrCkCfg (v : Word) : Statement (.wrCkCfg v) := fun _ => rfl
theorem rdCkPoly : Statement .rdCkPoly := fun _ => rfl
theorem wrCkPoly (v : Word) : Statement (.wrCkPoly v) := fun _ => rfl
theorem rdCkXor : Statement .rdCkXor := fun _ => rfl
theorem wrCkXor (v : Word) : Statement (.wrCkXor v) := fun _ => rfl
theorem rdOutFrame : Statement .rdOutFrame := fun _ => rfl
theorem wrOutFrame (v : Word) : Statement (.wrOutFrame v) := fun _ => rfl
theorem rdOutAux : Statement .rdOutAux := fun _ => rfl
theorem wrOutAux (v : Word) : Statement (.wrOutAux v) := fun _ => rfl
theorem rdCntOk : Statement .rdCntOk := fun _ => rfl
theorem wrCntOk (v : Word) : Statement (.wrCntOk v) := fun _ => rfl
theorem rdCntCkFail : Statement .rdCntCkFail := fun _ => rfl
theorem wrCntCkFail (v : Word) : Statement (.wrCntCkFail v) := fun _ => rfl
theorem rdCntFrmErr : Statement .rdCntFrmErr := fun _ => rfl
theorem wrCntFrmErr (v : Word) : Statement (.wrCntFrmErr v) := fun _ => rfl
theorem rdCntOvwr : Statement .rdCntOvwr := fun _ => rfl
theorem wrCntOvwr (v : Word) : Statement (.wrCntOvwr v) := fun _ => rfl

end Sys2Proof.Laws.EncodeFormat
end

