-- ==== Sys2Proof/Tests/Slice0.lean ====
section
/-! SUPPORT. The model's own tests: the checks of WellFormed refuse ill-formed terms, every constructor decodes from a
written-out word, one step at a time of the vectors of 95_test_vectors.md and of the worked examples of 44_host_ops.md,
and a witness for the hypotheses of every obligation. Every expected value comes from the spec. -/

namespace Sys2Proof.Tests

open Sys2Proof.Machine

/-! ## WellFormed refuses ill-formed samples (30_encoding.md R82) -/

theorem test_wf_i_too_high : (Instr.smp 128 0).wellFormed Params.reference = false := by decide
theorem test_wf_i_too_low : (Instr.smp (-129) 0).wellFormed Params.reference = false := by decide
theorem test_wf_q_too_high : (Instr.smp 0 128).wellFormed Params.reference = false := by decide
theorem test_wf_q_too_low : (Instr.smp 0 (-129)).wellFormed Params.reference = false := by decide
theorem test_wf_boundary : (Instr.smp (-128) 127).wellFormed Params.reference = true := by decide

/-! ## Decoding, word by word (30_encoding.md R81, R82, R87; 95_test_vectors.md V-ED6) -/

theorem test_dec_smp_signs : decodeTableWord 16 0b1111000000000000 = some (.smp (-16) 0) ∧
    decodeTableWord 16 0b0000000000010000 = some (.smp 0 16) ∧
    decodeTableWord 16 0b0000000011110000 = some (.smp 0 (-16)) := by decide
theorem test_dec_smp_unit : decodeTableWord 16 0b0000000100000000 = some (.smp 1 0) := by decide
theorem test_dec_rdCtrl : decodeTableWord 8 0b00000000 = some .rdCtrl := by decide
theorem test_dec_wrCtrl : decodeTableWord 40 0b0000000000000000000000000000100110000000 = some (.wrCtrl 9) := by decide
theorem test_dec_rdStatus : decodeTableWord 8 0b00000001 = some .rdStatus := by decide
theorem test_dec_wrStatus : decodeTableWord 8 0b10000001 = some (.wrStatus 0) := by decide
theorem test_dec_rdEdCfg : decodeTableWord 8 0b00000010 = some .rdEdCfg := by decide
theorem test_dec_wrEdCfg : decodeTableWord 8 0b10000010 = some (.wrEdCfg 0) := by decide
theorem test_dec_rdPtCfg : decodeTableWord 8 0b00000011 = some .rdPtCfg := by decide
theorem test_dec_wrPtCfg : decodeTableWord 8 0b10000011 = some (.wrPtCfg 0) := by decide
theorem test_dec_rdBrNom : decodeTableWord 8 0b00000100 = some .rdBrNom := by decide
theorem test_dec_wrBrNom : decodeTableWord 8 0b10000100 = some (.wrBrNom 0) := by decide
theorem test_dec_rdBrCfg : decodeTableWord 8 0b00000101 = some .rdBrCfg := by decide
theorem test_dec_wrBrCfg : decodeTableWord 8 0b10000101 = some (.wrBrCfg 0) := by decide
theorem test_dec_rdPrePat : decodeTableWord 8 0b00000110 = some .rdPrePat := by decide
theorem test_dec_wrPrePat : decodeTableWord 8 0b10000110 = some (.wrPrePat 0) := by decide
theorem test_dec_rdCkCfg : decodeTableWord 8 0b00000111 = some .rdCkCfg := by decide
theorem test_dec_wrCkCfg : decodeTableWord 8 0b10000111 = some (.wrCkCfg 0) := by decide
theorem test_dec_rdCkPoly : decodeTableWord 8 0b00001000 = some .rdCkPoly := by decide
theorem test_dec_wrCkPoly : decodeTableWord 8 0b10001000 = some (.wrCkPoly 0) := by decide
theorem test_dec_rdCkXor : decodeTableWord 8 0b00001001 = some .rdCkXor := by decide
theorem test_dec_wrCkXor : decodeTableWord 8 0b10001001 = some (.wrCkXor 0) := by decide
theorem test_dec_rdOutFrame : decodeTableWord 8 0b00001010 = some .rdOutFrame := by decide
theorem test_dec_wrOutFrame : decodeTableWord 8 0b10001010 = some (.wrOutFrame 0) := by decide
theorem test_dec_rdOutAux : decodeTableWord 8 0b00001011 = some .rdOutAux := by decide
theorem test_dec_wrOutAux : decodeTableWord 8 0b10001011 = some (.wrOutAux 0) := by decide
theorem test_dec_rdCntOk : decodeTableWord 8 0b00001100 = some .rdCntOk := by decide
theorem test_dec_wrCntOk : decodeTableWord 8 0b10001100 = some (.wrCntOk 0) := by decide
theorem test_dec_rdCntCkFail : decodeTableWord 8 0b00001101 = some .rdCntCkFail := by decide
theorem test_dec_wrCntCkFail : decodeTableWord 8 0b10001101 = some (.wrCntCkFail 0) := by decide
theorem test_dec_rdCntFrmErr : decodeTableWord 8 0b00001110 = some .rdCntFrmErr := by decide
theorem test_dec_wrCntFrmErr : decodeTableWord 8 0b10001110 = some (.wrCntFrmErr 0) := by decide
theorem test_dec_rdCntOvwr : decodeTableWord 8 0b00001111 = some .rdCntOvwr := by decide
theorem test_dec_wrCntOvwr : decodeTableWord 8 0b10001111 = some (.wrCntOvwr 0) := by decide
/-- The reserved commands of V-H14 are rejected. -/
theorem test_dec_reserved : decodeTableWord 8 0b00010000 = none ∧ decodeTableWord 8 0b10010000 = none ∧
    decodeTableWord 8 0b01001111 = none := by decide

/-! ## Small states -/

/-- TCFG (95_test_vectors.md §0). -/
def tcfg : CfgRegs :=
  { thrFactor := 0x0080, edWin := 8, minPulse := 1, shortNom := 4, longNom := 12, tol := 64, shortBit := false,
    preLen := 5, prePat := 0x15, ckW := 8, ckPoly := 7, ckInit := 0, ckXorout := 0 }

/-- TCFG programmed after reset, still disabled. -/
def programmed : State := { State.reset with cfg := tcfg }

/-- TCFG programmed and enabled, no beat yet. -/
def running : State := { programmed with enable := true }

/-- The P2 state (95_test_vectors.md §5 and P2's end state, before its reads). -/
def p2 : State :=
  { running with
    irqEn := true, ed := { hist := [0, 0, 0, 0, 0, 0, 0, 0], carrier := false },
    pt := { started := true, level := false, count := 20, glitch := 0 },
    out := { valid := true, id := 0x12AB34, st := 0x81, ck := 0xCC }, cnt := { ok := 1, ckFail := 0, frmErr := 0, ovwr := 0 } }

/-- A running state in RECEIVING with the bits of `buf`. -/
def receiving (n : BitVec 6) (buf : BitVec 48) : State :=
  { running with br := { st := .receiving, k := 0, nbits := n, buf := buf } }

/-- A running state in SYNC at preamble element `k`. -/
def syncing (k : BitVec 6) : State := { running with br := { st := .sync, k := k, nbits := 0, buf := 0 } }

/-- The state an operation answers. -/
def after (i : Instr) (s : State) : State :=
  match exec i s with
  | .next t => t
  | _ => s

/-- The word a read returns. -/
def got (i : Instr) (s : State) : Option Word := (after i s).readLog.head?

/-- A pulse of a duration; its level does not matter to the recoverer (42_bit_recoverer.md R146). -/
def lasting (d : BitVec 16) : Pulse := { level := true, duration := d }

/-! ## One step of each operation -/

/-- V-ED5: the most negative sample after a zero one is present, its power 32768 the newest. -/
theorem test_smp_extreme : (after (.smp (-128) (-128)) { running with ed := ⟨[0], false⟩ }).ed = ⟨[32768, 0], true⟩ := by
  decide
/-- V-ED2: the comparison is strict. -/
theorem test_smp_strict :
    (after (.smp 16 0) { running with cfg := { tcfg with thrFactor := 0x0100 }, ed := ⟨[256], false⟩ }).ed.carrier =
      false := by decide
/-- V-H16. -/
theorem test_rdCtrl : got .rdCtrl (after (.wrCtrl 9) programmed) = some 0x00000009 := by decide
/-- V-H1. -/
theorem test_wrCtrl_refused :
    got .rdCtrl (after (.wrCtrl 1) State.reset) = some 0 ∧ got .rdStatus (after (.wrCtrl 1) State.reset) = some 8 := by
  decide
/-- V-H9. -/
theorem test_wrCtrl_soft_reset :
    got .rdCtrl (after (.wrCtrl 2) p2) = some 0 ∧ got .rdStatus (after (.wrCtrl 2) p2) = some 0 ∧
      (after (.wrCtrl 2) p2).outFrame = 0 ∧ (after (.wrCtrl 2) p2).cfg = tcfg := by decide
/-- S8's STATUS value. -/
theorem test_rdStatus : got .rdStatus (receiving 29 0) = some 0x001D0002 := by decide
/-- V-ED10's STATUS value. -/
theorem test_rdStatus_levels :
    got .rdStatus { programmed with ed := ⟨[256, 256, 256], true⟩, pt := ⟨true, true, 2, 0⟩ } = some 0x00000030 := by decide
/-- V-H2. -/
theorem test_wrStatus : got .rdStatus (after (.wrStatus 8) { State.reset with cfgErr := true }) = some 0 := by decide
theorem test_rdEdCfg : got .rdEdCfg programmed = some 0x00080080 := by decide
/-- V-H6. -/
theorem test_wrEdCfg_enabled :
    got .rdEdCfg (after (.wrEdCfg 0) p2) = some 0x00080080 ∧ got .rdStatus (after (.wrEdCfg 0) p2) = some 0x0000000C := by
  decide
theorem test_rdPtCfg : got .rdPtCfg programmed = some 0x00000001 := by decide
/-- V-H5. -/
theorem test_wrPtCfg : got .rdPtCfg (after (.wrPtCfg 0x00010003) State.reset) = some 0x00000003 := by decide
theorem test_rdBrNom : got .rdBrNom programmed = some 0x000C0004 := by decide
theorem test_wrBrNom :
    (after (.wrBrNom 0x000C0004) State.reset).cfg = { CfgRegs.reset with shortNom := 4, longNom := 12 } := by decide
theorem test_rdBrCfg : got .rdBrCfg programmed = some 0x00050040 := by decide
/-- V-H3. -/
theorem test_wrBrCfg : got .rdBrCfg (after (.wrBrCfg 0xFFFFFFFF) State.reset) = some 0x003F01FF := by decide
theorem test_rdPrePat : got .rdPrePat programmed = some 0x00000015 := by decide
theorem test_wrPrePat : (after (.wrPrePat 0x15) State.reset).cfg = { CfgRegs.reset with prePat := 0x15 } := by decide
theorem test_rdCkCfg : got .rdCkCfg programmed = some 0x00000008 := by decide
/-- V-H4. -/
theorem test_wrCkCfg : got .rdCkCfg (after (.wrCkCfg 0x28) State.reset) = some 0x00000008 := by decide
theorem test_rdCkPoly : got .rdCkPoly programmed = some 0x00000007 := by decide
theorem test_wrCkPoly :
    (after (.wrCkPoly 0xFFFF1021) State.reset).cfg = { CfgRegs.reset with ckPoly := 0x1021, ckInit := 0xFFFF } := by decide
theorem test_rdCkXor : got .rdCkXor programmed = some 0 := by decide
theorem test_wrCkXor : (after (.wrCkXor 0xABCD0001) State.reset).cfg = { CfgRegs.reset with ckXorout := 1 } := by decide
/-- V-H12: the read, and the flag it clears. -/
theorem test_rdOutFrame :
    got .rdOutFrame p2 = some 0x12AB3481 ∧ p2.irq = true ∧ (after .rdOutFrame p2).irq = false := by decide
/-- V-H13: a second read returns the same frame. -/
theorem test_rdOutFrame_again : got .rdOutFrame (after .rdOutFrame p2) = some 0x12AB3481 := by decide
theorem test_rdOutAux :
    got .rdOutAux p2 = some 0x800000CC ∧ got .rdOutAux (after .rdOutFrame p2) = some 0x000000CC := by decide
/-- V-H11. -/
theorem test_wrOutFrame : after (.wrOutFrame 0) p2 = p2 := by decide
theorem test_wrOutAux : after (.wrOutAux 0) p2 = p2 := by decide
theorem test_wrCntOk : got .rdCntOk (after (.wrCntOk 5) p2) = some 1 := by decide
theorem test_rdCntOk : got .rdCntOk p2 = some 0x00000001 := by decide
/-- V-H7: the counters clear, the frame stays. -/
theorem test_clear_counters :
    got .rdCntOk (after (.wrCtrl 0xD) p2) = some 0 ∧ (after (.wrCtrl 0xD) p2).irq = true := by decide
theorem test_rdCntCkFail : got .rdCntCkFail { p2 with cnt := ⟨1, 2, 3, 4⟩ } = some 2 := by decide
theorem test_rdCntFrmErr : got .rdCntFrmErr { p2 with cnt := ⟨1, 2, 3, 4⟩ } = some 3 := by decide
theorem test_rdCntOvwr : got .rdCntOvwr { p2 with cnt := ⟨1, 2, 3, 4⟩ } = some 4 := by decide
theorem test_wrCnt_others :
    after (.wrCntCkFail 5) p2 = p2 ∧ after (.wrCntFrmErr 5) p2 = p2 ∧ after (.wrCntOvwr 5) p2 = p2 := by decide

/-! ## The stages of the pipeline -/

/-- V-PT2, its seventh beat: the glitch was merged, and the run of zeros is confirmed. -/
theorem test_pt_ends : pulseTimer 2 false ⟨true, true, 5, 1⟩ = (⟨true, false, 2, 0⟩, some ⟨true, 5⟩) := by decide
/-- V-PT4: saturation. -/
theorem test_pt_saturates : (pulseTimer 1 true ⟨true, true, 65535, 0⟩).1.count = 65535 := by decide
/-- V-BR1 and V-BR2. -/
theorem test_windows :
    tcfg.winLo 4 = 3 ∧ tcfg.winHi 4 = 5 ∧ tcfg.winLo 12 = 9 ∧ tcfg.winHi 12 = 15 ∧ classify tcfg 5 = some false ∧
      classify tcfg 6 = none ∧ classify tcfg 9 = some true ∧ classify tcfg 16 = none := by decide
/-- V-BR6: windows that overlap fail V4. -/
theorem test_windows_overlap : tcfg.v4 = true ∧ ({ tcfg with tol := 128 } : CfgRegs).v4 = false := by decide
/-- V-BR11: at element 3 a long pulse restarts the match at element 1. -/
theorem test_br_restart : (bitRecoverer (lasting 12) (syncing 3)).br = ⟨.sync, 1, 0, 0⟩ := by decide
/-- V-BR10: the framing error. -/
theorem test_br_framing_error :
    (bitRecoverer (lasting 7) (receiving 2 1)).br = ⟨.idle, 0, 0, 0⟩ ∧
      (bitRecoverer (lasting 7) (receiving 2 1)).cnt.frmErr = 1 := by decide
set_option maxRecDepth 8000 in
/-- V-FV1. -/
theorem test_crc_8 : crc tcfg 0x12AB3481#32 = 0xCC := by decide
set_option maxRecDepth 8000 in
/-- V-FV6. -/
theorem test_crc_16 : crc { tcfg with ckW := 16, ckPoly := 0x1021, ckInit := 0xFFFF } 0x12AB3481#32 = 0x779A := by decide
set_option maxRecDepth 8000 in
/-- V-FV12: an unread frame is overwritten and counted. -/
theorem test_fv_overwrite :
    (validate 0xABCDEF00E9 p2).outFrame = 0xABCDEF00 ∧ (validate 0xABCDEF00E9 p2).outAux = 0x800000E9 ∧
      (validate 0xABCDEF00E9 p2).cnt = ⟨2, 0, 0, 1⟩ := by decide
set_option maxRecDepth 8000 in
/-- V-FV13: a flipped status bit is rejected. -/
theorem test_fv_reject : validate 0x12AB3480CC p2 = { p2 with cnt := ⟨1, 1, 0, 0⟩ } := by decide

/-! ## Witnesses: for every obligation with hypotheses, concrete data that meet them all together -/

/-- A received frame of TCFG, one pulse per bit: 12 beats for 1, 4 beats for 0. -/
def framePulses (bs : List Bool) : List Pulse := bs.map fun b => lasting (if b then 12 else 4)

theorem witness_DecodeOfEncodeIsTheOperation :
    Params.reference.Legal ∧ (Instr.smp (-128) 127).wellFormed Params.reference = true ∧
      (Instr.wrBrCfg 0xFFFFFFFF).wellFormed Params.reference = true := by decide
theorem witness_DecodeOfEncode_extreme_parameters :
    (Params.mk 1 1).Legal ∧ (Instr.smp (-1) 0).wellFormed ⟨1, 1⟩ = true ∧ (Params.mk 16 65535).Legal ∧
      (Instr.smp (-32768) 32767).wellFormed ⟨16, 65535⟩ = true := by decide
theorem witness_CommandByteDecodesByItsFields :
    ((0x10#8).extractLsb' 4 3 ≠ 0 ∧ (0x10#8).getLsbD 7 = false) ∧ ((0xFF#8).extractLsb' 4 3 ≠ 0 ∧ (0xFF#8).getLsbD 7 = true) ∧
      ((0x0F#8).extractLsb' 4 3 = 0 ∧ (0x0F#8).getLsbD 7 = false) ∧
      ((0x8F#8).extractLsb' 4 3 = 0 ∧ (0x8F#8).getLsbD 7 = true) := by decide
theorem witness_BeatDecodesToItsTwoHalves : Params.reference.Legal ∧ (Params.mk 16 65535).Legal := by decide

/-- A read of OUT_FRAME on the host port. -/
def readFrame : HostAccess := { cmd := 0x0A, data := 0 }

theorem witness_StepRunsTheDecodedOperation :
    decode Params.reference (.host 0x0A 0) = .op .rdOutFrame ∧ decode Params.reference (.beat 0x1000) = .op (.smp 16 0) ∧
      tablePortWord 8 0x0A = some (.host 0x0A 0) ∧ tablePortWord 16 0x1000 = some (.beat 0x1000) ∧
      tablePortWord 40 0x0000000980 = some (.host 0x80 9) := by decide
theorem witness_StepRuns_inputs :
    ({ p2 with inputs := [.clock (some readFrame) none] } : State).inputs = .clock (some readFrame) none :: [] ∧
      ({ p2 with inputs := [.clock (some readFrame) (some 0x1000)] } : State).inputs =
        .clock (some readFrame) (some 0x1000) :: [] ∧
      ({ p2 with inputs := [.clock none (some 0x1000)] } : State).inputs = .clock none (some 0x1000) :: [] :=
  ⟨rfl, rfl, rfl⟩
theorem witness_NoOperationNoChange :
    p2.inputs = [] ∧ ({ p2 with inputs := [.clock none none] } : State).inputs = .clock none none :: [] := ⟨rfl, rfl⟩
theorem witness_HostAccessGoesBeforeTheBeat :
    ({ p2 with inputs := [.clock (some readFrame) (some 0x1000)] } : State).inputs =
      .clock (some readFrame) (some 0x1000) :: [] := rfl

/-- One bit short of the frame of V-FV11, with the last bit's pulse (4 beats, level on) about to be ended by an absent
beat. -/
def almostComplete : State :=
  { receiving 39 (0x12AB3481CC >>> 1) with
    ed := ⟨[256], true⟩, pt := ⟨true, true, 4, 0⟩, out := ⟨true, 0xABCDEF, 0, 0xE9⟩ }

set_option maxRecDepth 8000 in
/-- First clause: the read and the accepting beat in one clock (60_exceptions.md R244). -/
theorem witness_SameClock_read :
    ∃ t u, step { almostComplete with inputs := [.clock (some readFrame) (some 0)] } = .next t ∧ step t = .next u ∧
      readFrame.cmd = 0x0A ∧ u.cnt.ok ≠ almostComplete.cnt.ok :=
  ⟨_, _, rfl, rfl, by decide, by decide⟩
/-- Second clause: the disabling write and a beat in one clock. -/
theorem witness_SameClock_disable :
    ∃ t u, step { p2 with inputs := [.clock (some ⟨0x80, 0⟩) (some 0x1000)] } = .next t ∧ step t = .next u ∧
      (0#32).getLsbD 0 = false :=
  ⟨_, _, rfl, rfl, by decide⟩
theorem witness_ReservedCommandChangesNothing :
    ({ p2 with inputs := [.clock (some ⟨0x10, 0⟩) none] } : State).inputs = .clock (some ⟨0x10, 0⟩) none :: [] ∧
      (0x10#8).extractLsb' 4 3 ≠ 0 ∧ (0x10#8).getLsbD 7 = false ∧
      ({ p2 with inputs := [.clock (some ⟨0x90, 77⟩) none] } : State).inputs = .clock (some ⟨0x90, 77⟩) none :: [] ∧
      (0x90#8).extractLsb' 4 3 ≠ 0 ∧ (0x90#8).getLsbD 7 = true :=
  ⟨rfl, by decide, by decide, rfl, by decide, by decide⟩
theorem witness_HardReset : ({ p2 with inputs := [.reset] } : State).inputs = .reset :: [] := rfl
theorem witness_ResetStateIsZeroAndCannotBeEnabled : (1#32).getLsbD 0 = true := by decide
theorem witness_InvariantHoldsAtReset : Params.reference.Legal ∧ (Params.mk 16 65535).Legal := by decide
theorem witness_Inv_p2 : p2.Inv ∧ p2.enable = true := by decide
theorem witness_Inv_receiving : (receiving 29 (0x12AB3481CC >>> 11)).Running := by decide
theorem witness_Inv_syncing : (syncing 4).Running := by decide
theorem witness_EveryStepKeepsTheInvariant :
    ∃ t, ({ p2 with inputs := [.clock none (some 0x8080)] } : State).Inv ∧
      step { p2 with inputs := [.clock none (some 0x8080)] } = .next t :=
  ⟨_, by decide, rfl⟩
/-- The three clauses: running and still running, and disabled before an accepted enable. -/
theorem witness_EnabledMeansValidConfiguration :
    (∃ t, step { p2 with inputs := [.clock none (some 0)] } = .next t ∧ p2.cfg.valid p2.params = true ∧
      p2.enable = true ∧ t.enable = true) ∧
    ∃ t, step { programmed with inputs := [.clock (some ⟨0x80, 1⟩) none] } = .next t ∧ programmed.enable = false ∧
      t.enable = true :=
  ⟨⟨_, rfl, by decide, by decide, by decide⟩, ⟨_, rfl, by decide, by decide⟩⟩
/-- The premises of the V4 clause, at the smallest nominal durations. -/
theorem witness_CfgValidIsTheSevenChecks :
    tcfg.valid Params.reference = true ∧ (1 : Nat) ≤ (1#16).toNat ∧ (1#16).toNat < (2#16).toNat := by decide
theorem witness_DisabledBeatChangesNothing : programmed.enable = false := by decide
theorem witness_SampleBeat_enabled : running.enable = true ∧ running.ed.hist = [] := by decide
theorem witness_PowerIsExactAndBounded :
    running.Running ∧ (Instr.smp (-128) (-128)).wellFormed running.params = true ∧
      (-128 : Int) = -(2 ^ (running.params.sampleW - 1) : Int) := by decide
/-- The premises of the clauses of CarrierDecisionCornerCases: factor 0; zero power; constant input; two-level input with
a full history, and with a factor below 1; two samples of one power. -/
theorem witness_CarrierDecisionCornerCases :
    ({ tcfg with thrFactor := 0 } : CfgRegs).thrFactor = 0 ∧ (0 * 0 + 0 * 0 : Int) = 0 ∧
      ((16 * 16 + 0 * 0 : Int) = (256 : Nat) ∧ ∀ x ∈ [256, 256], x = 256) ∧
      ((∀ x ∈ [256, 0, 256, 256, 0, 0, 0, 0], x = 256 ∨ x = 0) ∧
        [256, 0, 256, 256, 0, 0, 0, 0].length = tcfg.edWin.toNat) ∧
      tcfg.thrFactor.toNat < 256 ∧ (0 * 0 + (-16) * (-16) : Int) = 16 * 16 + 0 * 0 := by decide
theorem witness_FirstBeatStartsTheFirstPulse : running.enable = true ∧ running.pt.started = false := by decide
theorem witness_SameLevelBeatExtendsThePulse :
    p2.enable = true ∧ p2.pt.started = true ∧ (p2.pt.level = true ↔ carrierPresent 0 0 p2) := by decide
/-- The saturation boundary of the same-level beat. -/
theorem witness_SameLevel_saturated :
    (p2.pt.level = true ↔ carrierPresent 0 0 { p2 with pt := ⟨true, false, 65535, 0⟩ }) := by decide
/-- The clause of the confirmed run, at MIN_PULSE = 1. -/
theorem witness_OtherLevel_ends :
    p2.Running ∧ p2.pt.started = true ∧ ¬ (p2.pt.level = true ↔ carrierPresent 16 0 p2) ∧
      ¬ p2.pt.glitch.toNat + 1 < p2.cfg.minPulse.toNat := by decide
/-- The clause of the unconfirmed run, at MIN_PULSE = 2. -/
theorem witness_OtherLevel_glitch :
    ({ p2 with cfg := { tcfg with minPulse := 2 } } : State).Running ∧
      ¬ (p2.pt.level = true ↔ carrierPresent 16 0 { p2 with cfg := { tcfg with minPulse := 2 } }) ∧
      p2.pt.glitch.toNat + 1 < (2#16).toNat := by decide
theorem witness_EmittedPulsesAlternate : 1 ≤ (1#16).toNat ∧ 1 ≤ (65535#16).toNat := by decide
theorem witness_PulseDurationsCountEveryBeat : 1 ≤ (2#16).toNat ∧ [true, true, false].length ≤ 65535 := by decide
theorem witness_WindowIsItsBounds : ({ tcfg with tol := 0 } : CfgRegs).tol = 0 ∧ 1 ≤ (1#16).toNat := by decide
theorem witness_ClassifyByTheDisjointWindows :
    tcfg.valid Params.reference = true ∧ tcfg.inWin 4 3 = true ∧ tcfg.inWin 12 15 = true ∧ tcfg.inWin 4 8 = false ∧
      tcfg.inWin 12 8 = false := by decide
/-- Rows 1 to 3 of the transition table. -/
theorem witness_Table_idle :
    (({ running with cfg := { tcfg with preLen := 1 } } : State).Running ∧
      preMatch { tcfg with preLen := 1 } 0 12 = true) ∧
    (running.Running ∧ running.br.st = .idle ∧ preMatch tcfg 0 12 = true ∧ 2 ≤ tcfg.preLen.toNat) ∧
    preMatch tcfg 0 4 = false :=
  ⟨⟨by decide, by decide⟩, ⟨by decide, by decide⟩, by decide⟩
/-- Rows 4 and 5. -/
theorem witness_Table_sync_match :
    ((syncing 4).Running ∧ preMatch tcfg 4 12 = true ∧ 4 + 1 = tcfg.preLen.toNat) ∧
    (syncing 3).Running ∧ preMatch tcfg 3 4 = true ∧ 3 + 1 < tcfg.preLen.toNat :=
  ⟨⟨by decide, by decide⟩, by decide, by decide⟩
/-- Rows 6 and 7. -/
theorem witness_Table_sync_mismatch :
    (preMatch tcfg 3 12 = false ∧ preMatch tcfg 0 12 = true) ∧ preMatch tcfg 2 4 = false ∧ preMatch tcfg 0 4 = false ∧
      (syncing 3).Running ∧ (syncing 2).Running :=
  ⟨by decide, by decide, by decide, by decide, by decide⟩
/-- Rows 8 to 10. -/
theorem witness_Table_receiving :
    ((receiving 2 1).Running ∧ classify tcfg 7 = none) ∧
    ((receiving 38 0).Running ∧ classify tcfg 12 = some true ∧ 38 + 1 < 32 + tcfg.ckW.toNat) ∧
    (receiving 39 0).Running ∧ classify tcfg 4 = some false ∧ 39 + 1 = 32 + tcfg.ckW.toNat :=
  ⟨⟨by decide, by decide⟩, ⟨by decide, by decide⟩, by decide, by decide⟩
theorem witness_FramingErrorDiscardsThePartialFrame :
    (receiving 2 1).Running ∧ (receiving 2 1).br.st = .receiving ∧ classify tcfg 2 = none ∧ classify tcfg 8 = none ∧
      classify tcfg 65535 = none := by decide
theorem witness_FrameReadyIsNeverSeen :
    ((receiving 39 0).br.st = .receiving ∧ classify tcfg 4 = some false) ∧
      ∃ t, p2.br.st ≠ .frameReady ∧ step p2 = .next t :=
  ⟨by decide, _, by decide, rfl⟩
theorem witness_RecovererReadsOnlyDurationAndConfiguration :
    p2.br = running.br ∧ p2.cfg = running.cfg ∧ (Pulse.mk true 12).duration = (Pulse.mk false 12).duration := by decide
theorem witness_CompletePreambleIsRecognised :
    running.Running ∧ running.br.st = .idle ∧ [12, 4, 12, 4, 12].length = running.cfg.preLen.toNat ∧
      preMatch tcfg 0 12 = true ∧ preMatch tcfg 1 4 = true ∧ preMatch tcfg 2 12 = true ∧ preMatch tcfg 3 4 = true ∧
      preMatch tcfg 4 12 = true := by decide
/-- S7's noise. -/
theorem witness_NoiseLeavesTheRecovererIdle :
    running.Running ∧ running.br.st = .idle ∧
      ∀ pulse ∈ [lasting 7, lasting 20, lasting 7], preMatch running.cfg 0 pulse.duration = false := by decide
set_option maxRecDepth 8000 in
/-- Both clauses, on V-FV11's and V-FV13's frames. -/
theorem witness_ValidateAcceptsOrRejects :
    tcfg.v6 = true ∧ crc tcfg (((0x12AB3481CC#48) >>> 8).setWidth 32) = (0x12AB3481CC#48).setWidth 16 &&& tcfg.ckMask ∧
      crc tcfg (((0x12AB3480CC#48) >>> 8).setWidth 32) ≠ (0x12AB3480CC#48).setWidth 16 &&& tcfg.ckMask := by decide
set_option maxRecDepth 8000 in
/-- The frame of P2. -/
theorem witness_WellFormedFrameIsAcceptedExactlyOnce :
    (receiving 0 0).Running ∧ (receiving 0 0).br = ⟨.receiving, 0, 0, 0⟩ ∧ (0xCC#16) = crc tcfg (0x12AB34#24 ++ 0x81#8) ∧
      ((framePulses (frameBits 0x12AB34 0x81 0xCC 8)).map fun pulse => classify tcfg pulse.duration) =
        (frameBits 0x12AB34 0x81 0xCC 8).map some := by decide
set_option maxRecDepth 8000 in
/-- The frame of P4. -/
theorem witness_WrongChecksumFrameIsRejectedOnce :
    (0xCC#16).toNat < 2 ^ tcfg.ckW.toNat ∧ (0xCC#16) ≠ crc tcfg (0x12AB34#24 ++ 0x80#8) ∧
      ((framePulses (frameBits 0x12AB34 0x80 0xCC 8)).map fun pulse => classify tcfg pulse.duration) =
        (frameBits 0x12AB34 0x80 0xCC 8).map some := by decide
set_option maxRecDepth 8000 in
theorem witness_SingleBitErrorIsAlwaysRejected :
    running.cfg.valid running.params = true ∧ 31 < 32 ∧ 39 < 32 + running.cfg.ckW.toNat ∧
      crc running.cfg (frameData running.cfg 0x12AB3481CC) = frameCk running.cfg 0x12AB3481CC := by decide
theorem witness_ChecksumIsAffine : tcfg.v6 = true := by decide
theorem witness_WidthOneChecksumIsParity :
    ({ tcfg with ckW := 1, ckPoly := 1 } : CfgRegs).ckInit = 0 ∧
      ({ tcfg with ckW := 1, ckPoly := 1, ckXorout := 1 } : CfgRegs).ckXorout = 1 ∧
      ({ tcfg with ckW := 1, ckPoly := 1 } : CfgRegs).ckXorout = 0 := by decide
theorem witness_AllZeroFrameIsAccepted : running.cfg.ckInit = 0 ∧ running.cfg.ckXorout = 0 := by decide
theorem witness_ControlAndStatusReads : (receiving 29 0).Inv ∧ (syncing 4).Inv ∧ running.Inv :=
  ⟨by decide, by decide, by decide⟩
theorem witness_ReadSideEffectsAreTheTable : (15#4) ≠ 10 ∧ (10#4) = 10 := by decide
/-- The two clauses of WriteControl: an accepted enable restarts, and a write that neither resets nor enables. -/
theorem witness_WriteControl :
    ((1#32).getLsbD 1 || ((1#32).getLsbD 0 && !programmed.enable && programmed.cfg.valid programmed.params)) = true ∧
      ((9#32).getLsbD 1 || ((9#32).getLsbD 0 && !p2.enable && p2.cfg.valid p2.params)) = false := by decide
theorem witness_ConfigurationWrites :
    programmed.enable = false ∧ p2.enable = true ∧ isCfgIndex 2 ∧ isCfgIndex 9 ∧ (2#4) ≠ 9 := by decide
theorem witness_ConfigurationReadsBackMasked :
    (5#4, 0x003F01FF#32) ∈ [(2#4, 0xFFFFFFFF#32), (3#4, 0x0000FFFF#32), (4#4, 0xFFFFFFFF#32), (5#4, 0x003F01FF#32),
      (6#4, 0xFFFFFFFF#32), (7#4, 0x0000001F#32), (8#4, 0xFFFFFFFF#32), (9#4, 0x0000FFFF#32)] := by decide
set_option maxRecDepth 8000 in
/-- OUT_VALID rises in the beat that completes a frame, and falls by a read and by a soft reset. -/
theorem witness_OutValidChangesOnlyByItsRules :
    ({ almostComplete with out := ResultReg.reset } : State).out.valid = false ∧
      (after (.smp 0 0) { almostComplete with out := ResultReg.reset }).out.valid = true ∧ p2.out.valid = true ∧
      (after .rdOutFrame p2).out.valid = false ∧ (after (.wrCtrl 3) p2).out.valid = false := by decide
theorem witness_OnlyBeatsAndControlTouchTheDatapath :
    exec .rdStatus p2 = .next (after .rdStatus p2) ∧ (∀ a b, Instr.rdStatus ≠ .smp a b) ∧
      (∀ v, Instr.rdStatus ≠ .wrCtrl v) :=
  ⟨rfl, by simp, by simp⟩
theorem witness_CountersChangeOnlyByTheirRules :
    exec (.wrCtrl 0xD) p2 = .next (after (.wrCtrl 0xD) p2) ∧ (after (.wrCtrl 0xD) p2).cnt ≠ p2.cnt :=
  ⟨rfl, by decide⟩
theorem witness_EnableForgetsThePartialDatapath :
    programmed.enable = false ∧ programmed.cfg.valid programmed.params = true ∧ (9#32).getLsbD 0 = true := by decide

end Sys2Proof.Tests
end

namespace Sys2Proof.Machine

/-! ### The fetch word on the queue of clocks -/

@[simp] theorem withInputs_self (s : State) : withInputs s.inputs s = s := rfl

theorem withFetchWord_of_portWord {nbits w : Nat} {pw : PortWord} (hpw : tablePortWord nbits w = some pw) (s : State) :
    s.withFetchWord nbits w = withInputs (clockOf pw :: s.inputs) s := by
  simp [State.withFetchWord, hpw]

/-- A port word that stands alone in the first clock is taken whole, and the queue behind it stays. -/
theorem step_withInputs_clockOf {s : State} {pw : PortWord} {i : Instr} (hd : decode s.params pw = .op i)
    (rest : List ClockInput) : step (withInputs (clockOf pw :: rest) s) = exec i (withInputs rest s) :=
  step_of_decode (s := withInputs (clockOf pw :: rest) s) (nextOp_clockOf pw rest) hd

/-- Settles O5: in each shape of the first clock `nextOp` offers the word in question, and `step_of_decode` runs it. -/
theorem stepRunsTheDecodedOperation : Obligations.StepRunsTheDecodedOperation := by
  refine ⟨?hostAlone, ?hostBesideBeat, ?beatAlone, ?fetchWord⟩
  case hostAlone =>
    intro s h rest i hin hd
    exact step_of_decode (hin ▸ nextOp_host h rest) hd
  case hostBesideBeat =>
    intro s h b rest i hin hd
    exact step_of_decode (hin ▸ nextOp_host_beat h b rest) hd
  case beatAlone =>
    intro s b rest i hin hd
    exact step_of_decode (hin ▸ nextOp_beat b rest) hd
  case fetchWord =>
    intro s nbits w pw i hpw hd
    rw [withFetchWord_of_portWord hpw, step_withInputs_clockOf hd, withInputs_self]

end Sys2Proof.Machine

namespace Sys2Proof.Machine

/-! ### Host writes, field by field -/

section HostWriteFields
variable (b : Bool) (set : CfgRegs → CfgRegs) (s : State)

@[simp] theorem softResetIf_params : (softResetIf b s).params = s.params := by cases b <;> rfl
@[simp] theorem softResetIf_cfg : (softResetIf b s).cfg = s.cfg := by cases b <;> rfl
@[simp] theorem softResetIf_enable : (softResetIf b s).enable = s.enable := by cases b <;> rfl
@[simp] theorem softResetIf_out : (softResetIf b s).out = if b then ResultReg.reset else s.out := by cases b <;> rfl
@[simp] theorem softResetIf_cnt : (softResetIf b s).cnt = if b then Counters.reset else s.cnt := by cases b <;> rfl

@[simp] theorem clearCountersIf_params : (clearCountersIf b s).params = s.params := by cases b <;> rfl
@[simp] theorem clearCountersIf_cfg : (clearCountersIf b s).cfg = s.cfg := by cases b <;> rfl
@[simp] theorem clearCountersIf_enable : (clearCountersIf b s).enable = s.enable := by cases b <;> rfl
@[simp] theorem clearCountersIf_out : (clearCountersIf b s).out = s.out := by cases b <;> rfl
@[simp] theorem clearCountersIf_cnt : (clearCountersIf b s).cnt = if b then Counters.reset else s.cnt := by
  cases b <;> rfl

/-- ENABLE after a write of CTRL: kept at 1, or raised where CfgValid holds (44_host_ops.md R201). -/
@[simp] theorem setEnable_enable : (setEnable b s).enable = (b && (s.enable || s.cfg.valid s.params)) := by
  rcases setEnable_cases b s with ⟨rfl, h⟩ | ⟨rfl, he, h⟩ | ⟨rfl, he, hv, h⟩ | ⟨rfl, he, hv, h⟩ <;> simp [*]

@[simp] theorem setEnable_out : (setEnable b s).out = s.out := by
  rcases setEnable_cases b s with ⟨-, h⟩ | ⟨-, -, h⟩ | ⟨-, -, -, h⟩ | ⟨-, -, -, h⟩ <;> simp [h]

@[simp] theorem setEnable_cnt : (setEnable b s).cnt = s.cnt := by
  rcases setEnable_cases b s with ⟨-, h⟩ | ⟨-, -, h⟩ | ⟨-, -, -, h⟩ | ⟨-, -, -, h⟩ <;> simp [h]

/-- A configuration write changes at most the configuration and CFG_ERR (44_host_ops.md R205). -/
theorem writeCfg_eq :
    writeCfg set s = { s with cfg := (writeCfg set s).cfg, cfgErr := (writeCfg set s).cfgErr } := by
  rcases writeCfg_cases set s with ⟨-, h⟩ | ⟨-, h⟩ <;> rw [h]

@[simp] theorem writeCfg_params : (writeCfg set s).params = s.params := by rw [writeCfg_eq]
@[simp] theorem writeCfg_enable : (writeCfg set s).enable = s.enable := by rw [writeCfg_eq]
@[simp] theorem writeCfg_ed : (writeCfg set s).ed = s.ed := by rw [writeCfg_eq]
@[simp] theorem writeCfg_pt : (writeCfg set s).pt = s.pt := by rw [writeCfg_eq]
@[simp] theorem writeCfg_br : (writeCfg set s).br = s.br := by rw [writeCfg_eq]
@[simp] theorem writeCfg_out : (writeCfg set s).out = s.out := by rw [writeCfg_eq]
@[simp] theorem writeCfg_cnt : (writeCfg set s).cnt = s.cnt := by rw [writeCfg_eq]

theorem writeCfg_cfg_of_enabled {s : State} (h : s.enable = true) : (writeCfg set s).cfg = s.cfg := by
  rw [writeCfg_of_enabled h]

/-- ENABLE after WR_CTRL (44_host_ops.md R201). -/
theorem afterWrCtrl_enable (v : Word) :
    (afterWrCtrl v s).enable = (v.getLsbD 0 && (s.enable || s.cfg.valid s.params)) := by simp [afterWrCtrl]

/-- The result register after WR_CTRL: cleared by SOFT_RESET (44_host_ops.md R201). -/
theorem afterWrCtrl_out (v : Word) : (afterWrCtrl v s).out = if v.getLsbD 1 then ResultReg.reset else s.out := by
  simp [afterWrCtrl]

/-- The counters after WR_CTRL: cleared by SOFT_RESET and by CLR_CNT (44_host_ops.md R201). -/
theorem afterWrCtrl_cnt (v : Word) :
    (afterWrCtrl v s).cnt = if v.getLsbD 2 then Counters.reset else if v.getLsbD 1 then Counters.reset else s.cnt := by
  simp [afterWrCtrl]

end HostWriteFields

/-! ### CfgValid (10_state.md R45) -/

/-- Masking with CKMASK keeps the low CK_W bits, whatever CK_W is (10_state.md R47). -/
theorem and_ckMask_toNat (c : CfgRegs) (x : BitVec 16) : (x &&& c.ckMask).toNat = x.toNat % 2 ^ c.ckW.toNat := by
  have hmask : x &&& c.ckMask = BitVec.ofNat 16 (x.toNat % 2 ^ c.ckW.toNat) := by
    rw [CfgRegs.ckMask, ← Nat.and_two_pow_sub_one_eq_mod, BitVec.ofNat_and, BitVec.ofNat_toNat, BitVec.setWidth_eq]
  rw [hmask, BitVec.toNat_ofNat, Nat.mod_eq_of_lt ((Nat.mod_le _ _).trans_lt x.isLt)]

theorem CfgRegs.v7_iff (c : CfgRegs) : c.v7 = true ↔ c.ckPoly.toNat % 2 ^ c.ckW.toNat ≠ 0 := by
  rw [v7, decide_eq_true_iff, ← and_ckMask_toNat, ne_eq, ← BitVec.toNat_inj]
  rfl

/-- CfgValid check by check: V1 to V7 in their order. -/
theorem CfgRegs.valid_iff (p : Params) (c : CfgRegs) :
    c.valid p = true ↔
      (1 ≤ c.edWin.toNat ∧ c.edWin.toNat ≤ p.winMax) ∧ 1 ≤ c.minPulse.toNat ∧
      (1 ≤ c.shortNom.toNat ∧ c.shortNom.toNat < c.longNom.toNat) ∧ c.winHi c.shortNom < c.winLo c.longNom ∧
      (1 ≤ c.preLen.toNat ∧ c.preLen.toNat ≤ 32) ∧ (1 ≤ c.ckW.toNat ∧ c.ckW.toNat ≤ 16) ∧
      c.ckPoly.toNat % 2 ^ c.ckW.toNat ≠ 0 := by
  simp only [valid, Bool.and_eq_true, v7_iff, v1, v2, v3, v4, v5, v6, decide_eq_true_eq, preMax, ckWMax, and_assoc]

/-- A duration is in the window of `n` exactly from the least to the greatest one (10_state.md R45, 42_bit_recoverer.md
R141). -/
theorem CfgRegs.inWin_iff (c : CfgRegs) (n d : BitVec 16) :
    c.inWin n d = true ↔ c.winLo n ≤ d.toNat ∧ d.toNat ≤ c.winHi n := by
  have htol : c.tol.toNat ≤ 256 := c.tol.isLt.le
  rw [inWin, decide_eq_true_iff, winLo, winHi, Nat.mul_sub, Nat.mul_add]
  have hle : n.toNat * c.tol.toNat ≤ n.toNat * 256 := Nat.mul_le_mul_left _ htol
  omega

/-- The windows' bounds are about the nominal duration itself. -/
theorem CfgRegs.winLo_le_winHi (c : CfgRegs) (n : BitVec 16) : c.winLo n ≤ n.toNat ∧ n.toNat ≤ c.winHi n := by
  rw [winLo, winHi, Nat.mul_sub, Nat.mul_add]
  omega

theorem CfgRegs.winLo_mono (c : CfgRegs) {n m : BitVec 16} (h : n.toNat ≤ m.toNat) : c.winLo n ≤ c.winLo m :=
  Nat.div_le_div_right (Nat.add_le_add_right (Nat.mul_le_mul_right _ h) _)

/-- V4 is disjointness of the two windows: the least duration of the later window is in both if they meet. -/
theorem CfgRegs.winHi_lt_winLo_iff (c : CfgRegs) {n m : BitVec 16} (h : n.toNat ≤ m.toNat) :
    c.winHi n < c.winLo m ↔ ∀ d : BitVec 16, ¬ (c.inWin n d = true ∧ c.inWin m d = true) := by
  simp only [inWin_iff]
  constructor
  · intro hlt d
    omega
  · intro hdisj
    obtain ⟨hlo, hhi⟩ := c.winLo_le_winHi m
    have hd : (BitVec.ofNat 16 (c.winLo m)).toNat = c.winLo m :=
      (BitVec.toNat_ofNat _ _).trans (Nat.mod_eq_of_lt (hlo.trans_lt m.isLt))
    have hmeet := hdisj (BitVec.ofNat 16 (c.winLo m))
    have hmono := c.winLo_mono h
    omega

/-- Settles O17: `valid_iff` for the seven checks, and `winHi_lt_winLo_iff` for what V4 says. -/
theorem cfgValidIsTheSevenChecks : Obligations.CfgValidIsTheSevenChecks := by
  intro p c
  exact ⟨c.valid_iff p, fun _ hlt => c.winHi_lt_winLo_iff hlt.le⟩

/-! ### What an operation did, by the state it answers -/

/-- `exec_cases` as a relation between the operation and the next state, one constructor per kind of effect. -/
inductive ExecEffect (s : State) : Instr → State → Prop
  | beat (a b : Int) (he : s.enable = true) : ExecEffect s (.smp a b) (acceptBeat a b s)
  | wrCtrl (v : Word) : ExecEffect s (.wrCtrl v) (afterWrCtrl v s)
  | wrStatus (v : Word) : ExecEffect s (.wrStatus v) { s with cfgErr := s.cfgErr && !v.getLsbD 3 }
  | rdOutFrame : ExecEffect s .rdOutFrame (consumeFrame (respond s.outFrame s))
  | read (i : Instr) (v : Word) : ExecEffect s i (respond v s)
  | cfgWrite (i : Instr) (set : CfgRegs → CfgRegs) : ExecEffect s i (writeCfg set s)
  | nothing (i : Instr) : ExecEffect s i s

theorem clearCfgErr_eq (b : Bool) (s : State) :
    (if b then { s with cfgErr := false } else s) = { s with cfgErr := s.cfgErr && !b } := by
  cases b <;> simp

theorem execEffect_of_exec {i : Instr} {s t : State} (hexec : exec i s = .next t) : ExecEffect s i t := by
  rcases exec_cases i s with ⟨a, b, rfl, he, h⟩ | ⟨v, rfl, h⟩ | ⟨v, rfl, h⟩ | ⟨rfl, h⟩ | ⟨-, -, v, h⟩ | ⟨-, -, set, h⟩ |
      ⟨-, -, h⟩ <;> obtain rfl := Host.Outcome.next.inj (h.symm.trans hexec)
  · exact .beat a b he
  · exact .wrCtrl v
  · rw [clearCfgErr_eq]; exact .wrStatus v
  · exact .rdOutFrame
  · exact .read i v
  · exact .cfgWrite i set
  · exact .nothing i

/-! ### ENABLE and the configuration (10_state.md R46) -/

/-- An operation that ends enabled keeps the configuration, and began enabled or with CfgValid. -/
theorem exec_of_enabled_after {i : Instr} {s t : State} (hexec : exec i s = .next t) (ht : t.enable = true) :
    t.cfg = s.cfg ∧ (s.enable = true ∨ s.cfg.valid s.params = true) := by
  cases execEffect_of_exec hexec with
  | beat a b he =>
    obtain ⟨-, hcfg, -⟩ := acceptBeat_frame a b s
    exact ⟨hcfg, .inl he⟩
  | wrCtrl v =>
    obtain ⟨-, hcfg, -⟩ := afterWrCtrl_frame v s
    have hen : v.getLsbD 0 = true ∧ (s.enable = true ∨ s.cfg.valid s.params = true) := by
      simpa [afterWrCtrl_enable] using ht
    exact ⟨hcfg, hen.2⟩
  | cfgWrite i set =>
    have he : s.enable = true := by simpa using ht
    exact ⟨writeCfg_cfg_of_enabled set he, .inl he⟩
  | wrStatus | rdOutFrame | read | nothing => exact ⟨rfl, .inl ht⟩

/-- No operation writes the build parameters (00_scope.md R7, log 3). -/
theorem exec_params {i : Instr} {s t : State} (hexec : exec i s = .next t) : t.params = s.params := by
  cases execEffect_of_exec hexec with
  | beat a b => exact (acceptBeat_frame a b s).1
  | wrCtrl v => exact (afterWrCtrl_frame v s).1
  | cfgWrite i set => exact writeCfg_params set s
  | wrStatus | rdOutFrame | read | nothing => rfl

/-- A step is an idle or reserved one, which changes nothing but the ports, the hard reset, or one operation. -/
inductive StepEffect (s : State) : State → Prop
  | idle (rest : List ClockInput) : StepEffect s (withInputs rest s)
  | reset (rest : List ClockInput) : StepEffect s (hardReset (withInputs rest s))
  | reservedRead (rest : List ClockInput) : StepEffect s (respond 0 (withInputs rest s))
  | op (w : PortWord) (rest : List ClockInput) (i : Instr) (t : State) (hd : decode s.params w = .op i)
      (hexec : exec i (withInputs rest s) = .next t) : StepEffect s t

theorem stepEffect_of_step {s t : State} (hstep : step s = .next t) : StepEffect s t := by
  rcases step_cases s with ⟨rest, -, h⟩ | ⟨rest, -, h⟩ | ⟨w, rest, -, -, h⟩ | ⟨w, rest, -, -, h⟩ |
      ⟨w, rest, i, -, hd, h⟩
  case inr.inr.inr.inr => exact .op w rest i t hd (h ▸ hstep)
  all_goals obtain rfl := Host.Outcome.next.inj (h.symm.trans hstep)
  · exact .idle rest
  · exact .reset rest
  · exact .reservedRead rest
  · exact .idle rest

theorem step_params {s t : State} (hstep : step s = .next t) : t.params = s.params := by
  cases stepEffect_of_step hstep with
  | op w rest i t hd hexec => exact (exec_params hexec).trans (withInputs_params s rest)
  | idle | reset | reservedRead => rfl

/-- A step that ends enabled keeps the configuration, and began enabled or with CfgValid. -/
theorem step_of_enabled_after {s t : State} (hstep : step s = .next t) (ht : t.enable = true) :
    t.cfg = s.cfg ∧ (s.enable = true ∨ s.cfg.valid s.params = true) := by
  cases stepEffect_of_step hstep with
  | op w rest i t hd hexec => simpa using exec_of_enabled_after hexec ht
  | reset rest => cases ht
  | idle | reservedRead => exact ⟨rfl, .inl ht⟩

/-- Settles O16: `step_of_enabled_after`, read for each of the three clauses. -/
theorem enabledMeansValidConfiguration : Obligations.EnabledMeansValidConfiguration := by
  intro s t hstep
  refine ⟨fun hvalid ht => ?_, fun _ ht => (step_of_enabled_after hstep ht).1, fun hs ht => ?_⟩
  · obtain ⟨hcfg, hbefore⟩ := step_of_enabled_after hstep ht
    rw [hcfg, step_params hstep]
    exact hbefore.elim hvalid id
  · obtain ⟨hcfg, hbefore⟩ := step_of_enabled_after hstep ht
    exact ⟨hcfg, hbefore.resolve_left (by simp [hs])⟩

/-! ### The invariant (10_state.md R40 to R43, R46) -/

/-- The invariant passes to a state with the same datapath that is enabled only where the first was, with the same
configuration: the bounds of log 14 fall away when the core is disabled. -/
theorem State.Inv.of_sameDatapath {s t : State} (hs : s.Inv) (hparams : t.params = s.params) (hed : t.ed = s.ed)
    (hpt : t.pt = s.pt) (hbr : t.br = s.br) (hen : t.enable = true → s.enable = true ∧ t.cfg = s.cfg) : t.Inv := by
  rcases Bool.eq_false_or_eq_true t.enable with h | h
  · obtain ⟨hse, hcfg⟩ := hen h
    simpa only [State.Inv, State.HistInv, State.PulseInv, State.RecovererInv, hparams, hed, hpt, hbr, h, hse, hcfg]
      using hs
  · obtain ⟨hlegal, -, ⟨hlen, -, hpow⟩, ⟨hrest, hcount, -⟩, hready, hsync, hk, -, hnbits, hn, -, hbuf⟩ := hs
    simp only [State.Inv, State.HistInv, State.PulseInv, State.RecovererInv, hparams, hed, hpt, hbr, h,
      Bool.false_eq_true, false_implies, true_and]
    exact ⟨hlegal, ⟨hlen, hpow⟩, ⟨hrest, hcount, trivial⟩, hready, hsync, hk, hnbits, hn, hbuf⟩

/-- A datapath at rest meets the invariant, whatever the legal build parameters. -/
theorem State.inv_of_atRest {s : State} (hlegal : s.params.Legal)
    (hvalid : s.enable = true → s.cfg.valid s.params = true) (hed : s.ed = EnergyDetector.reset)
    (hpt : s.pt = PulseTimer.reset) (hbr : s.br = BitRecoverer.reset) : s.Inv := by
  have hmin : s.enable = true → 0 < s.cfg.minPulse.toNat := fun h => ((s.cfg.valid_iff _).1 (hvalid h)).2.1
  refine ⟨hlegal, hvalid, ?hist, ?pulse, ?recoverer⟩
  case hist => simp [State.HistInv, hed, EnergyDetector.reset]
  case pulse => simpa [State.PulseInv, hpt, PulseTimer.reset] using hmin
  case recoverer => simp [State.RecovererInv, hbr, BitRecoverer.reset, CfgRegs.frameLen]

/-- Settles O14: after reset the datapath is at rest and the core is disabled. -/
theorem invariantHoldsAtReset : Obligations.InvariantHoldsAtReset := by
  have hreset : ∀ p : Params, p.Legal → (State.resetOf p).Inv := fun p hp =>
    State.inv_of_atRest hp (by simp [State.resetOf]) rfl rfl rfl
  exact ⟨hreset, hreset _ (by decide)⟩

/-! #### WR_CTRL -/

theorem softReset_keeps_inv {s : State} (hs : s.Inv) : (softReset s).Inv :=
  State.inv_of_atRest hs.1 hs.2.1 rfl rfl rfl

theorem softResetIf_keeps_inv (b : Bool) {s : State} (hs : s.Inv) : (softResetIf b s).Inv := by
  cases b
  · exact hs
  · exact softReset_keeps_inv hs

theorem clearCountersIf_keeps_inv (b : Bool) {s : State} (hs : s.Inv) : (clearCountersIf b s).Inv := by
  cases b <;> exact hs

theorem setIrqEn_keeps_inv (b : Bool) {s : State} (hs : s.Inv) : (setIrqEn b s).Inv := hs

theorem setEnable_keeps_inv (b : Bool) {s : State} (hs : s.Inv) : (setEnable b s).Inv := by
  rcases setEnable_cases b s with ⟨-, h⟩ | ⟨-, -, h⟩ | ⟨-, -, hv, h⟩ | ⟨-, -, -, h⟩ <;> rw [h]
  · exact hs.of_sameDatapath rfl rfl rfl rfl nofun
  · exact hs
  · exact State.inv_of_atRest hs.1 (fun _ => hv) rfl rfl rfl
  · exact hs

theorem afterWrCtrl_keeps_inv (v : Word) {s : State} (hs : s.Inv) : (afterWrCtrl v s).Inv :=
  setEnable_keeps_inv _ (setIrqEn_keeps_inv _ (clearCountersIf_keeps_inv _ (softResetIf_keeps_inv _ hs)))

theorem writeCfg_keeps_inv (set : CfgRegs → CfgRegs) {s : State} (hs : s.Inv) : (writeCfg set s).Inv :=
  hs.of_sameDatapath (writeCfg_params ..) (writeCfg_ed ..) (writeCfg_pt ..) (writeCfg_br ..) fun h =>
    have he : s.enable = true := by simpa using h
    ⟨he, writeCfg_cfg_of_enabled set he⟩

/-! #### The history -/

theorem signedField_inRange (p : Params) (b : BeatWord) (lo : Nat) :
    componentInRange p (signedField b lo p.sampleW) = true := by
  have hlow := BitVec.le_toInt (b.extractLsb' lo p.sampleW)
  have hhigh := BitVec.toInt_lt (x := b.extractLsb' lo p.sampleW)
  exact Bool.and_eq_true_iff.2 ⟨decide_eq_true hlow, decide_eq_true (Int.le_sub_one_of_lt hhigh)⟩

theorem decodeHost_wellFormed {p : Params} {c : CommandByte} {d : Word} {i : Instr} (h : decodeHost c d = .op i) :
    i.wellFormed p = true := by
  unfold decodeHost at h
  split at h
  case h_33 => split at h <;> cases h
  all_goals cases h; rfl

/-- The decoder answers only operations the port can carry (30_encoding.md R82). -/
theorem decode_wellFormed {p : Params} {w : PortWord} {i : Instr} (h : decode p w = .op i) :
    i.wellFormed p = true := by
  cases w with
  | host c d => exact decodeHost_wellFormed h
  | beat b =>
    obtain rfl := Decoded.op.inj h
    simp [decodeBeat, Instr.wellFormed, signedField_inRange]

/-- The power of a sample in range is at most 2^(2·SAMPLE_W − 1) (40_sample_path.md R102). -/
theorem power_le {p : Params} (hp : 1 ≤ p.sampleW) {i q : Int} (h : (Instr.smp i q).wellFormed p = true) :
    power i q ≤ 2 ^ (2 * p.sampleW - 1) := by
  obtain ⟨n, hn⟩ : ∃ n, p.sampleW = n + 1 := ⟨p.sampleW - 1, by omega⟩
  simp only [Instr.wellFormed, componentInRange, Bool.and_eq_true, decide_eq_true_eq, hn, Nat.add_sub_cancel] at h
  obtain ⟨⟨hi, hi'⟩, hq, hq'⟩ := h
  have hisq : i * i ≤ 2 ^ n * 2 ^ n := by nlinarith
  have hqsq : q * q ≤ 2 ^ n * 2 ^ n := by nlinarith
  have hpow : (2 : Int) ^ (2 * (n + 1) - 1) = 2 * (2 ^ n * 2 ^ n) := by
    rw [← pow_add, ← pow_succ']; congr 1; omega
  rw [hn, power, Int.toNat_le]
  push_cast
  rw [hpow]
  omega

theorem acceptBeat_keeps_histInv {s : State} (hs : s.Inv) (he : s.enable = true) {i q : Int}
    (hwf : (Instr.smp i q).wellFormed s.params = true) : (acceptBeat i q s).HistInv := by
  obtain ⟨hparams, hcfg, -, -, -, hed, -⟩ := acceptBeat_frame i q s
  obtain ⟨⟨⟨hW, -⟩, -⟩, hvalid, ⟨-, -, hpow⟩, -⟩ := hs
  obtain ⟨⟨-, hwin⟩, -⟩ := (s.cfg.valid_iff _).1 (hvalid he)
  have hlen : (pushPower s.cfg.edWin (power i q) s.ed.hist).length ≤ s.cfg.edWin.toNat := List.length_take_le ..
  simp only [State.HistInv, hparams, hcfg, hed, timeBeat_ed, energyDetector]
  refine ⟨hlen.trans hwin, fun _ => hlen, fun x hx => ?_⟩
  rcases List.mem_cons.1 (List.mem_of_mem_take hx) with rfl | hx
  · exact power_le hW hwf
  · exact hpow x hx

/-! #### The pulse timer -/

/-- After a beat the timer has started, its pulse has a sample, and the unconfirmed run is below MIN_PULSE. -/
theorem pulseTimer_range {m : BitVec 16} {pt : PulseTimer} (hcount : pt.started = true → 1 ≤ pt.count.toNat)
    (hglitch : pt.glitch.toNat < m.toNat) (c : Bool) :
    (pulseTimer m c pt).1.started = true ∧ 1 ≤ (pulseTimer m c pt).1.count.toNat ∧
      (pulseTimer m c pt).1.glitch.toNat < m.toNat := by
  have hm := m.isLt
  have hzero : (0#16).toNat < m.toNat := (Nat.zero_le _).trans_lt hglitch
  have hsucc : (BitVec.ofNat 16 (pt.glitch.toNat + 1)).toNat = pt.glitch.toNat + 1 :=
    (BitVec.toNat_ofNat _ _).trans (Nat.mod_eq_of_lt (by omega))
  rcases Bool.eq_false_or_eq_true pt.started with hst | hst
  · by_cases hc : c = pt.level
    · rw [pulseTimer_same m hst hc]
      exact ⟨hst, by simp [sat16_toNat], hzero⟩
    · by_cases hg : pt.glitch.toNat + 1 < m.toNat
      · rw [pulseTimer_glitch hst hc hg]
        exact ⟨hst, hcount hst, hsucc.trans_lt hg⟩
      · rw [pulseTimer_ends hst hc hg]
        exact ⟨hst, by simp [hsucc], hzero⟩
  · rw [pulseTimer_first m c hst]
    exact ⟨rfl, by simp, hzero⟩

theorem acceptBeat_keeps_pulseInv {s : State} (hs : s.PulseInv) (he : s.enable = true) (i q : Int) :
    (acceptBeat i q s).PulseInv := by
  obtain ⟨-, hcfg, -, -, -, -, hpt, -⟩ := acceptBeat_frame i q s
  obtain ⟨-, hcount, hglitch⟩ := hs
  obtain ⟨hstarted, hcount', hglitch'⟩ :=
    pulseTimer_range hcount (hglitch he) (detect (power i q) s.ed.hist s.cfg.thrFactor)
  simp only [State.PulseInv, hcfg, hpt, timeBeat_pt]
  exact ⟨fun h => by simp [hstarted] at h, fun _ => hcount', fun _ => hglitch'⟩

/-! #### The bit recoverer -/

theorem nextMatch_le (c : CfgRegs) (k : Nat) (d : BitVec 16) : nextMatch c k d ≤ k + 1 := by
  unfold nextMatch
  split_ifs <;> omega

theorem matchPreamble_keeps_recovererInv {s : State} (hs : s.RecovererInv) (he : s.enable = true)
    (hlen : 1 ≤ s.cfg.preLen.toNat ∧ s.cfg.preLen.toNat ≤ 32) (hst : s.br.st ≠ .receiving) (d : BitVec 16) :
    State.RecovererInv { s with br := matchPreamble s.cfg d s.br } := by
  obtain ⟨-, -, hk, hpre, hnbits, hn, hframe, hbuf⟩ := hs
  have hbelow : s.br.k.toNat < s.cfg.preLen.toNat := by
    by_cases h : s.br.st = .sync
    · exact hpre he h
    · rw [hk h]; exact hlen.1
  have hnext := nextMatch_le s.cfg s.br.k.toNat d
  unfold matchPreamble
  split_ifs with hfull hzero
  · simp [State.RecovererInv, CfgRegs.frameLen]
  · exact ⟨nofun, nofun, fun _ => rfl, fun _ => nofun, hnbits, fun _ => hn hst, hframe, hbuf⟩
  · have hidx : (BitVec.ofNat 6 (nextMatch s.cfg s.br.k.toNat d)).toNat = nextMatch s.cfg s.br.k.toNat d :=
      (BitVec.toNat_ofNat _ _).trans (Nat.mod_eq_of_lt (by omega))
    have hrange : 1 ≤ (BitVec.ofNat 6 (nextMatch s.cfg s.br.k.toNat d)).toNat ∧
        (BitVec.ofNat 6 (nextMatch s.cfg s.br.k.toNat d)).toNat < s.cfg.preLen.toNat := by omega
    exact ⟨nofun, fun _ => ⟨hrange.1, Nat.le_of_lt_succ (hrange.2.trans_le hlen.2)⟩, fun h => absurd rfl h,
      fun _ _ => hrange.2, hnbits, fun _ => hn hst, hframe, hbuf⟩

theorem framingError_keeps_recovererInv {s : State} (hs : s.RecovererInv) (hst : s.br.st = .receiving) :
    (framingError s).RecovererInv := by
  obtain ⟨-, -, hk, -⟩ := hs
  have hk : s.br.k = 0 := hk (by simp [hst])
  simp [State.RecovererInv, hk, CfgRegs.frameLen]

theorem appendBit_toNat_lt {buf : BitVec 48} {n : Nat} (h : buf.toNat < 2 ^ n) (b : Bool) :
    (appendBit buf b).toNat < 2 ^ (n + 1) := by
  rw [appendBit, BitVec.toNat_or]
  refine Nat.or_lt_two_pow ?shifted ?bit
  case shifted =>
    rw [BitVec.toNat_shiftLeft, Nat.shiftLeft_eq]
    have hmod := Nat.mod_le (buf.toNat * 2 ^ 1) (2 ^ 48)
    omega
  case bit => cases b <;> simp [bit]

theorem appendBit_keeps_recovererInv {s : State} (hs : s.RecovererInv) (he : s.enable = true)
    (hst : s.br.st = .receiving) (hne : s.br.nbits.toNat + 1 ≠ s.cfg.frameLen) (hlen : s.cfg.frameLen ≤ 48) (b : Bool) :
    State.RecovererInv { s with br := { s.br with nbits := s.br.nbits + 1, buf := appendBit s.br.buf b } } := by
  obtain ⟨-, -, hk, -, hnbits, -, hframe, hbuf⟩ := hs
  have hn : (s.br.nbits + 1).toNat = s.br.nbits.toNat + 1 := by
    rw [BitVec.toNat_add]
    exact Nat.mod_eq_of_lt (Nat.add_lt_add_right (hnbits.trans_lt (by decide : 47 < 63)) 1)
  have hbuf' : (appendBit s.br.buf b).toNat < 2 ^ (s.br.nbits + 1).toNat := by
    rw [hn]; exact appendBit_toNat_lt hbuf b
  have hframe' : (s.br.nbits + 1).toNat < s.cfg.frameLen := hn.trans_lt (Nat.lt_of_le_of_ne (hframe he) hne)
  exact ⟨by simp [hst], by simp [hst], hk, by simp [hst], Nat.le_of_lt_succ (hframe'.trans_le hlen),
    fun h => absurd hst h, fun _ => hframe', hbuf'⟩

theorem bitRecoverer_keeps_recovererInv {s : State} (hs : s.RecovererInv) (he : s.enable = true)
    (hvalid : s.cfg.valid s.params = true) (pulse : Pulse) : (bitRecoverer pulse s).RecovererInv := by
  obtain ⟨-, -, -, -, hpre, ⟨-, hckW⟩, -⟩ := (s.cfg.valid_iff _).1 hvalid
  have hlen : s.cfg.frameLen ≤ 48 := Nat.add_le_add_left hckW 32
  rcases bitRecoverer_cases pulse s with ⟨hst, h⟩ | ⟨hst, -, h⟩ | ⟨b, hst, -, hnbits, h⟩ | ⟨b, -, -, -, h⟩ | ⟨hst, -⟩
  · rw [h]
    exact matchPreamble_keeps_recovererInv hs he hpre (by rcases hst with hst | hst <;> simp [hst]) _
  · rw [h]
    exact framingError_keeps_recovererInv hs hst
  · rw [h]
    exact appendBit_keeps_recovererInv hs he hst hnbits hlen b
  · rw [h]
    simp [State.RecovererInv, BitRecoverer.reset, CfgRegs.frameLen]
  · exact absurd hst hs.1

theorem acceptBeat_keeps_recovererInv {s : State} (hs : s.RecovererInv) (he : s.enable = true)
    (hvalid : s.cfg.valid s.params = true) (i q : Int) : (acceptBeat i q s).RecovererInv := by
  rcases acceptBeat_cases i q s with ⟨-, h⟩ | ⟨pulse, -, h⟩
  · rw [h]
    exact hs
  · rw [h]
    exact bitRecoverer_keeps_recovererInv (s := timeBeat i q s) hs he hvalid pulse

/-! #### Every operation and every step -/

theorem acceptBeat_keeps_inv {s : State} (hs : s.Inv) (he : s.enable = true) {i q : Int}
    (hwf : (Instr.smp i q).wellFormed s.params = true) : (acceptBeat i q s).Inv := by
  obtain ⟨hparams, hcfg, -⟩ := acceptBeat_frame i q s
  have hhist := acceptBeat_keeps_histInv hs he hwf
  obtain ⟨hlegal, hvalid, -, hpulse, hrec⟩ := hs
  refine ⟨hparams ▸ hlegal, fun _ => ?_, hhist, acceptBeat_keeps_pulseInv hpulse he i q,
    acceptBeat_keeps_recovererInv hrec he (hvalid he) i q⟩
  rw [hparams, hcfg]
  exact hvalid he

theorem exec_keeps_inv {i : Instr} {s t : State} (hs : s.Inv) (hwf : i.wellFormed s.params = true)
    (hexec : exec i s = .next t) : t.Inv := by
  cases execEffect_of_exec hexec with
  | beat a b he => exact acceptBeat_keeps_inv hs he hwf
  | wrCtrl v => exact afterWrCtrl_keeps_inv v hs
  | cfgWrite i set => exact writeCfg_keeps_inv set hs
  | wrStatus | rdOutFrame | read | nothing => exact hs

/-- Settles O15: a decoded operation is well formed, so `exec_keeps_inv` covers it; the hard reset brings the datapath
to rest, and every other step leaves the core as it is. -/
theorem everyStepKeepsTheInvariant : Obligations.EveryStepKeepsTheInvariant := by
  intro s t hs hstep
  cases stepEffect_of_step hstep with
  | op w rest i t hd hexec => exact exec_keeps_inv (s := withInputs rest s) hs (decode_wellFormed hd) hexec
  | reset rest => exact State.inv_of_atRest hs.1 nofun rfl rfl rfl
  | idle | reservedRead => exact hs

/-! ### The result register and the counters (10_state.md R34 to R39) -/

/-- From `s` to `t` there was no event, a framing error, a rejected frame or an accepted one, in this order, and the
result register changed only with the last (60_exceptions.md R241). -/
def AtMostOneEvent (s t : State) : Prop :=
  (t.cnt = s.cnt ∧ t.out = s.out) ∨ (t.cnt = s.cnt.countFrmErr ∧ t.out = s.out) ∨
    (t.cnt = s.cnt.countCkFail ∧ t.out = s.out) ∨ (t.cnt = s.cnt.countOk s.out.valid ∧ t.out.valid = true)

theorem bitRecoverer_atMostOneEvent (pulse : Pulse) (s : State) : AtMostOneEvent s (bitRecoverer pulse s) := by
  rcases bitRecoverer_cases pulse s with ⟨-, h⟩ | ⟨-, -, h⟩ | ⟨b, -, -, -, h⟩ | ⟨b, -, -, -, h⟩ | ⟨-, h⟩ <;> rw [h]
  · exact .inl ⟨rfl, rfl⟩
  · exact .inr (.inl ⟨rfl, rfl⟩)
  · exact .inl ⟨rfl, rfl⟩
  · rcases validate_cases (appendBit s.br.buf b) s with ⟨-, hv⟩ | ⟨-, hv⟩ <;> rw [hv]
    · exact .inr (.inr (.inr ⟨rfl, rfl⟩))
    · exact .inr (.inr (.inl ⟨rfl, rfl⟩))
  · exact .inl ⟨rfl, rfl⟩

theorem acceptBeat_atMostOneEvent (i q : Int) (s : State) : AtMostOneEvent s (acceptBeat i q s) := by
  rcases acceptBeat_cases i q s with ⟨-, h⟩ | ⟨pulse, -, h⟩ <;> rw [h]
  · exact .inl ⟨rfl, rfl⟩
  · exact bitRecoverer_atMostOneEvent pulse (timeBeat i q s)

/-- OUT_VALID rises only in a beat that counts an accepted frame. -/
theorem exec_raises_outValid {i : Instr} {s t : State} (hexec : exec i s = .next t) (hs : s.out.valid = false)
    (ht : t.out.valid = true) : s.enable = true ∧ t.cnt.ok = s.cnt.ok + 1 ∧ ∃ a b, i = .smp a b := by
  cases execEffect_of_exec hexec with
  | beat a b he =>
    rcases acceptBeat_atMostOneEvent a b s with ⟨-, hout⟩ | ⟨-, hout⟩ | ⟨-, hout⟩ | ⟨hcnt, -⟩
    case inr.inr.inr => exact ⟨he, by rw [hcnt]; rfl, a, b, rfl⟩
    all_goals simp [hout, hs] at ht
  | wrCtrl v =>
    rw [afterWrCtrl_out] at ht
    split_ifs at ht
    · cases ht
    · simp [hs] at ht
  | cfgWrite | wrStatus | rdOutFrame | read | nothing => simp [hs] at ht

/-- OUT_VALID falls only by a read of OUT_FRAME or by SoftReset. -/
theorem exec_clears_outValid {i : Instr} {s t : State} (hexec : exec i s = .next t) (hs : s.out.valid = true)
    (ht : t.out.valid = false) : i = .rdOutFrame ∨ ∃ v : Word, i = .wrCtrl v ∧ v.getLsbD 1 = true := by
  cases execEffect_of_exec hexec with
  | beat a b =>
    rcases acceptBeat_atMostOneEvent a b s with ⟨-, h⟩ | ⟨-, h⟩ | ⟨-, h⟩ | ⟨-, h⟩ <;> simp [h, hs] at ht
  | wrCtrl v =>
    refine .inr ⟨v, rfl, ?_⟩
    by_contra hv
    rw [afterWrCtrl_out, if_neg hv, hs] at ht
    cases ht
  | rdOutFrame => exact .inl rfl
  | cfgWrite | wrStatus | read | nothing => simp [hs] at ht

/-- Settles O55: `irq` is its definition; the two lemmas above are the two directions of OUT_VALID. -/
theorem outValidChangesOnlyByItsRules : Obligations.OutValidChangesOnlyByItsRules :=
  fun _ _ _ hexec => ⟨rfl, exec_raises_outValid hexec, exec_clears_outValid hexec⟩

/-- Settles O58: of the effects an operation can have, only a beat and the clears of WR_CTRL write the counters. -/
theorem countersChangeOnlyByTheirRules : Obligations.CountersChangeOnlyByTheirRules := by
  intro i s t hexec hcnt
  cases execEffect_of_exec hexec with
  | beat a b he => exact .inl ⟨he, a, b, rfl⟩
  | wrCtrl v =>
    rw [afterWrCtrl_cnt] at hcnt ⊢
    split_ifs at hcnt ⊢ with hclear hsoft
    · exact .inr ⟨rfl, v, rfl, .inr hclear⟩
    · exact .inr ⟨rfl, v, rfl, .inl hsoft⟩
    · exact absurd rfl hcnt
  | cfgWrite i set => exact absurd (writeCfg_cnt set s) hcnt
  | wrStatus | rdOutFrame | read | nothing => exact absurd rfl hcnt

/-! ### An enable and the datapath (10_state.md R50) -/

theorem setEnable_of_valid {s : State} (he : s.enable = false) (hv : s.cfg.valid s.params = true) :
    setEnable true s = restart { s with enable := true } := by
  simp [setEnable, he, hv]

theorem setEnable_of_invalid {s : State} (he : s.enable = false) (hv : s.cfg.valid s.params = false) :
    setEnable true s = { s with cfgErr := true } := by
  simp [setEnable, he, hv]

/-- The state an accepted WR_CTRL enable gives, whose last act is Restart. -/
theorem afterWrCtrl_of_enabling {s : State} {v : Word} (he : s.enable = false) (hvalid : s.cfg.valid s.params = true)
    (hv : v.getLsbD 0 = true) :
    afterWrCtrl v s = restart
      { setIrqEn (v.getLsbD 3) (clearCountersIf (v.getLsbD 2) (softResetIf (v.getLsbD 1) s)) with enable := true } := by
  rw [afterWrCtrl, hv, setEnable_of_valid (by simp [he]) (by simp [hvalid])]

/-- Settles O59: the Restart at the end of the write overwrites all three parts of the datapath. -/
theorem enableForgetsThePartialDatapath : Obligations.EnableForgetsThePartialDatapath := by
  intro s v ed pt br he hvalid hv
  refine ⟨afterWrCtrl v s, execWrCtrl_eq v s, by simp [afterWrCtrl_enable, hv, hvalid], ?_⟩
  rw [execWrCtrl_eq, afterWrCtrl_of_enabling he hvalid hv,
    afterWrCtrl_of_enabling (s := { s with ed := ed, pt := pt, br := br }) he hvalid hv]
  cases v.getLsbD 1 <;> cases v.getLsbD 2 <;> rfl

/-! ### Reset and idle clocks (10_state.md R22, R53) -/

theorem step_of_idle {s : State} {rest : List ClockInput} (h : nextOp s.inputs = .idle rest) :
    step s = .next (withInputs rest s) := by
  simp [step, h]

/-- Settles O6: in both cases `nextOp` offers nothing. -/
theorem noOperationNoChange : Obligations.NoOperationNoChange := by
  refine ⟨fun s hin => ?_, fun s rest hin => step_of_idle (hin ▸ nextOp_none rest)⟩
  calc
    step s = .next (withInputs [] s) := step_of_idle (by rw [hin, nextOp_nil])
    _ = .next s := by rw [← hin, withInputs_self]

theorem resetOf_regRead (p : Params) (idx : BitVec 4) : (State.resetOf p).regRead idx = 0 := by
  have hreference : ∀ idx : BitVec 4, State.reset.regRead idx = 0 := by decide
  exact hreference idx

/-- The zero configuration is not valid under any build parameters (10_state.md R53). -/
theorem CfgRegs.reset_not_valid (p : Params) : CfgRegs.reset.valid p = false := rfl

/-- Settles O13: every field is 0 by definition, and a request to enable meets a configuration that is not valid. -/
theorem resetStateIsZeroAndCannotBeEnabled : Obligations.ResetStateIsZeroAndCannotBeEnabled := by
  intro p
  refine ⟨resetOf_regRead p, rfl, rfl, rfl, rfl, rfl, rfl, ⟨rfl, rfl, rfl, rfl, rfl, rfl⟩, fun v hv => ?_⟩
  have hdisabled : (State.resetOf p).enable = false := rfl
  have hinvalid : (State.resetOf p).cfg.valid (State.resetOf p).params = false := CfgRegs.reset_not_valid p
  refine ⟨afterWrCtrl v (State.resetOf p), execWrCtrl_eq .., by simp [afterWrCtrl_enable, hdisabled, hinvalid], ?_⟩
  rw [afterWrCtrl, hv, setEnable_of_invalid (by simp [hdisabled]) (by simp [hinvalid])]

end Sys2Proof.Machine

namespace Sys2Proof.Machine

/-! ### A host access and its clock (20_memory.md R69) -/

@[simp] theorem writeCfg_inputs (set : CfgRegs → CfgRegs) (s : State) : (writeCfg set s).inputs = s.inputs := by
  rw [writeCfg_eq]

/-- Every operation answers a next state, and none writes the pending inputs (60_exceptions.md R240, log 1). -/
theorem exec_completes (i : Instr) (s : State) : ∃ t, exec i s = .next t ∧ t.inputs = s.inputs := by
  have hnext : ∃ t, exec i s = .next t := by
    rcases exec_cases i s with ⟨_, _, -, -, h⟩ | ⟨_, -, h⟩ | ⟨_, -, h⟩ | ⟨-, h⟩ | ⟨-, -, _, h⟩ | ⟨-, -, _, h⟩ |
      ⟨-, -, h⟩ <;> exact ⟨_, h⟩
  obtain ⟨t, hexec⟩ := hnext
  refine ⟨t, hexec, ?_⟩
  cases execEffect_of_exec hexec with
  | beat a b =>
    obtain ⟨-, -, -, -, -, -, -, -, hinputs, -⟩ := acceptBeat_frame a b s
    exact hinputs
  | wrCtrl v =>
    obtain ⟨-, -, -, hinputs, -⟩ := afterWrCtrl_frame v s
    exact hinputs
  | cfgWrite i set => exact writeCfg_inputs set s
  | wrStatus | rdOutFrame | read | nothing => rfl

/-- A step on a word, reserved or not, completes and leaves the inputs that remain after the word. -/
theorem step_of_word {s : State} {w : PortWord} {rest : List ClockInput} (hn : nextOp s.inputs = .word w rest) :
    ∃ t, step s = .next t ∧ t.inputs = rest := by
  cases hd : decode s.params w with
  | op i =>
    obtain ⟨t, hexec, hinputs⟩ := exec_completes i (withInputs rest s)
    exact ⟨t, (step_of_decode hn hd).trans hexec, hinputs⟩
  | reservedRead => exact ⟨reservedRead (withInputs rest s), by simp [step, hn, hd], rfl⟩
  | reservedWrite => exact ⟨reservedWrite (withInputs rest s), by simp [step, hn, hd], rfl⟩

/-- A step sees the pending inputs only through the operation they offer next. -/
theorem step_withInputs_congr (s : State) {xs : List ClockInput} (hn : nextOp xs = nextOp s.inputs) :
    step (withInputs xs s) = step s := by
  unfold step
  rw [withInputs_inputs, withInputs_params, hn]
  rfl

/-- Settles O7: the clock with both and the access's own clock offer the same operation and leave the same clock behind;
`step_of_word` is the access and then the beat. -/
theorem hostAccessGoesBeforeTheBeat : Obligations.HostAccessGoesBeforeTheBeat := by
  intro s h b rest hin
  have hboth : nextOp s.inputs = .word (.host h.cmd h.data) (.clock none (some b) :: rest) :=
    hin ▸ nextOp_host_beat h b rest
  obtain ⟨t, hst, ht⟩ := step_of_word hboth
  obtain ⟨u, htu, hu⟩ := step_of_word (ht ▸ nextOp_beat b rest)
  refine ⟨t, u, hst, ht, htu, hu, ?_⟩
  have hsplit : nextOp (.clock (some h) none :: .clock none (some b) :: rest) = nextOp s.inputs := by
    rw [hboth, nextOp_host]
  exact (step_withInputs_congr s hsplit).trans hst

/-! ### The side effects of reads (20_memory.md R66) -/

/-- A read returns its register on the read port; that of OUT_FRAME also marks the frame consumed. -/
theorem exec_readInstr (idx : BitVec 4) (s : State) :
    exec (readInstr idx) s =
      .next (if idx = 10 then consumeFrame (respond (s.regRead idx) s) else respond (s.regRead idx) s) := by
  obtain ⟨n⟩ := idx
  fin_cases n <;> rfl

/-- No register shows the record of the words read. -/
@[simp] theorem respond_regRead (v : Word) (idx : BitVec 4) (s : State) : (respond v s).regRead idx = s.regRead idx := rfl

/-- Settles O47: `exec_readInstr` is the table, and neither the record of reads nor OUT_VALID is in the word of
OUT_FRAME. -/
theorem readSideEffectsAreTheTable : Obligations.ReadSideEffectsAreTheTable := by
  intro s idx
  by_cases hframe : idx = 10
  · subst hframe
    exact ⟨consumeFrame (respond s.outFrame s), rfl, rfl, fun h => absurd rfl h, fun _ => rfl, _, rfl, rfl⟩
  · have hread (t : State) : exec (readInstr idx) t = .next (respond (t.regRead idx) t) := by
      rw [exec_readInstr, if_neg hframe]
    exact ⟨respond (s.regRead idx) s, hread s, rfl, fun _ => rfl, fun h => absurd h hframe, _, hread _, by simp⟩

/-! ### The bits of a frame in the buffer (20_memory.md R63, 42_bit_recoverer.md R147) -/

theorem appendBit_ofNat (x : Nat) (b : Bool) :
    appendBit (BitVec.ofNat 48 x) b = BitVec.ofNat 48 (2 * x + b.toNat) := by
  have hshift : BitVec.ofNat 48 x <<< 1 = BitVec.ofNat 48 (2 * x) := by
    rw [BitVec.shiftLeft_eq_mul_twoPow, Nat.mul_comm, BitVec.ofNat_mul]
    rfl
  have hbit : (bit b).setWidth 48 = BitVec.ofNat 48 b.toNat := by cases b <;> rfl
  have hdisjoint : BitVec.ofNat 48 (2 * x) &&& BitVec.ofNat 48 b.toNat = 0#48 := by
    rw [← BitVec.ofNat_and]
    cases b <;> simp
  rw [appendBit, hshift, hbit, ← BitVec.add_eq_or_of_and_eq_zero _ _ hdisjoint, BitVec.ofNat_add]

/-- Shifting in the low `n` bits of `v`, most significant first, is multiplying by `2 ^ n` and adding them. -/
theorem foldl_appendBit_bitsMsbFirst {len : Nat} (v : BitVec len) (n x : Nat) :
    (bitsMsbFirst v n).foldl appendBit (BitVec.ofNat 48 x) = BitVec.ofNat 48 (x * 2 ^ n + v.toNat % 2 ^ n) := by
  induction n generalizing x with
  | zero => simp [bitsMsbFirst, Nat.mod_one]
  | succ n ih =>
    rw [bitsMsbFirst, List.foldl_cons, appendBit_ofNat, ih]
    congr 1
    rw [BitVec.getLsbD, Nat.toNat_testBit, pow_succ, Nat.mod_mul]
    ring

theorem length_bitsMsbFirst {len : Nat} (v : BitVec len) (n : Nat) : (bitsMsbFirst v n).length = n := by
  induction n with
  | zero => rfl
  | succ n ih => rw [bitsMsbFirst, List.length_cons, ih]

theorem length_frameBits (id : BitVec 24) (st : BitVec 8) (ck : BitVec 16) (w : Nat) :
    (frameBits id st ck w).length = 32 + w := by
  simp [frameBits, length_bitsMsbFirst, ← Nat.add_assoc]

/-- The buffer a whole frame leaves: the 32 data bits above the checksum. -/
theorem foldl_appendBit_frameBits (id : BitVec 24) (st : BitVec 8) {ck : BitVec 16} {w : Nat} (hck : ck.toNat < 2 ^ w) :
    (frameBits id st ck w).foldl appendBit (0#48) = BitVec.ofNat 48 ((id ++ st).toNat * 2 ^ w + ck.toNat) := by
  have hdata : (id ++ st).toNat = id.toNat * 2 ^ 8 + st.toNat := by
    rw [BitVec.toNat_append, ← Nat.shiftLeft_add_eq_or_of_lt st.isLt, Nat.shiftLeft_eq]
  rw [frameBits, List.foldl_append, List.foldl_append, foldl_appendBit_bitsMsbFirst (x := 0),
    foldl_appendBit_bitsMsbFirst, foldl_appendBit_bitsMsbFirst, hdata, Nat.mod_eq_of_lt id.isLt,
    Nat.mod_eq_of_lt st.isLt, Nat.mod_eq_of_lt hck, Nat.zero_mul, Nat.zero_add]

section FrameFields
variable {c : CfgRegs} (hw : c.ckW.toNat ≤ 16) (data : Word) {ck : BitVec 16} (hck : ck.toNat < 2 ^ c.ckW.toNat)
include hw hck

/-- A frame has at most 48 bits, so the buffer holds it whole (00_scope.md R8). -/
theorem toNat_frameBuffer :
    (BitVec.ofNat 48 (data.toNat * 2 ^ c.ckW.toNat + ck.toNat)).toNat = data.toNat * 2 ^ c.ckW.toNat + ck.toNat := by
  refine (BitVec.toNat_ofNat _ _).trans (Nat.mod_eq_of_lt ?_)
  calc
    data.toNat * 2 ^ c.ckW.toNat + ck.toNat < (data.toNat + 1) * 2 ^ c.ckW.toNat := by rw [Nat.succ_mul]; omega
    _ ≤ 2 ^ 32 * 2 ^ 16 := Nat.mul_le_mul data.isLt (Nat.pow_le_pow_right (by decide) hw)

theorem frameData_frameBuffer :
    frameData c (BitVec.ofNat 48 (data.toNat * 2 ^ c.ckW.toNat + ck.toNat)) = data := by
  apply BitVec.eq_of_toNat_eq
  rw [frameData, BitVec.toNat_setWidth, BitVec.toNat_ushiftRight, toNat_frameBuffer hw data hck, Nat.shiftRight_eq_div_pow,
    Nat.mul_comm, Nat.mul_add_div (Nat.two_pow_pos _), Nat.div_eq_of_lt hck, Nat.add_zero, Nat.mod_eq_of_lt data.isLt]

theorem frameCk_frameBuffer : frameCk c (BitVec.ofNat 48 (data.toNat * 2 ^ c.ckW.toNat + ck.toNat)) = ck := by
  apply BitVec.eq_of_toNat_eq
  rw [frameCk, and_ckMask_toNat, BitVec.toNat_setWidth, toNat_frameBuffer hw data hck,
    Nat.mod_mod_of_dvd _ (Nat.pow_dvd_pow 2 hw), Nat.mul_add_mod_self_right, Nat.mod_eq_of_lt hck]

end FrameFields

/-- The validator's verdict on a whole frame, in the frame's own fields (43_frame_validator.md R170). -/
theorem validate_frameBuffer {s : State} (hw : s.cfg.ckW.toNat ≤ 16) (id : BitVec 24) (st : BitVec 8) {ck : BitVec 16}
    (hck : ck.toNat < 2 ^ s.cfg.ckW.toNat) :
    validate (BitVec.ofNat 48 ((id ++ st).toNat * 2 ^ s.cfg.ckW.toNat + ck.toNat)) s =
      if crc s.cfg (id ++ st) = ck then acceptFrame id st ck s else rejectFrame s := by
  rw [validate, frameData_frameBuffer hw _ hck, frameCk_frameBuffer hw _ hck, field, field,
    BitVec.extractLsb'_append_eq_left, BitVec.extractLsb'_append_eq_right]

/-! ### The width of a checksum (43_frame_validator.md R172) -/

theorem and_ckMask_lt (c : CfgRegs) (x : BitVec 16) : (x &&& c.ckMask).toNat < 2 ^ c.ckW.toNat := by
  rw [and_ckMask_toNat]
  exact Nat.mod_lt _ (Nat.two_pow_pos _)

theorem xor_and_ckMask_lt (c : CfgRegs) {x : BitVec 16} (hx : x.toNat < 2 ^ c.ckW.toNat) (y : BitVec 16) :
    (x ^^^ (y &&& c.ckMask)).toNat < 2 ^ c.ckW.toNat := by
  rw [BitVec.toNat_xor]
  exact Nat.xor_lt_two_pow hx (and_ckMask_lt c y)

theorem crcStep_lt (c : CfgRegs) (reg : BitVec 16) (b : Bool) : (crcStep c reg b).toNat < 2 ^ c.ckW.toNat := by
  unfold crcStep
  split
  · exact xor_and_ckMask_lt c (and_ckMask_lt c _) _
  · exact and_ckMask_lt c _

theorem crcBits_lt (c : CfgRegs) {len : Nat} (data : BitVec len) (n : Nat) {reg : BitVec 16}
    (hreg : reg.toNat < 2 ^ c.ckW.toNat) : (crcBits c data n reg).toNat < 2 ^ c.ckW.toNat := by
  induction n generalizing reg with
  | zero => exact hreg
  | succ n ih => exact ih (crcStep_lt c reg _)

/-- A checksum has no bit at or above CK_W. -/
theorem crc_lt (c : CfgRegs) {len : Nat} (data : BitVec len) : (crc c data).toNat < 2 ^ c.ckW.toNat :=
  xor_and_ckMask_lt c (crcBits_lt c data len (and_ckMask_lt c _)) _

/-! ### A whole frame through the recoverer (42_bit_recoverer.md R147 to R150) -/

/-- The state with one more bit in the recoverer's buffer (42_bit_recoverer.md R147). -/
def withBit (b : Bool) (s : State) : State :=
  { s with br := { s.br with nbits := s.br.nbits + 1, buf := appendBit s.br.buf b } }

section ReceivingABit
variable {s : State} {pulse : Pulse} {b : Bool} (hst : s.br.st = .receiving)
  (hb : classify s.cfg pulse.duration = some b)
include hst hb

/-- A bit that does not complete the frame is appended. -/
theorem bitRecoverer_of_partial (hn : s.br.nbits.toNat + 1 ≠ s.cfg.frameLen) :
    bitRecoverer pulse s = withBit b s := by
  simp [bitRecoverer_receiving hst, receivePulse, hb, receiveBit, hn, withBit]

/-- The bit that completes the frame is appended, and the validator sees the buffer. -/
theorem bitRecoverer_of_complete (hn : s.br.nbits.toNat + 1 = s.cfg.frameLen) :
    bitRecoverer pulse s = { validate (appendBit s.br.buf b) s with br := BitRecoverer.reset } := by
  rcases bitRecoverer_cases pulse s with ⟨hidle, -⟩ | ⟨-, hnone, -⟩ | ⟨_, -, -, hmore, -⟩ | ⟨b', -, hb', -, h⟩ |
      ⟨hready, -⟩
  · simp [hst] at hidle
  · simp [hb] at hnone
  · exact absurd hn hmore
  · obtain rfl := Option.some.inj (hb.symm.trans hb')
    exact h
  · simp [hst] at hready

end ReceivingABit

/-- The validator does not look at the recoverer. -/
theorem validate_withRecoverer (buf : BitVec 48) (br : BitRecoverer) (s : State) :
    validate buf { s with br := br } = { validate buf s with br := br } := by
  unfold validate
  split <;> rfl

/-- BIT_CNT is wide enough to count the bits of a frame (10_state.md R43, R47). -/
theorem withBit_nbits_toNat {s : State} (hlt : s.br.nbits.toNat < s.cfg.frameLen) (b : Bool) :
    (withBit b s).br.nbits.toNat = s.br.nbits.toNat + 1 := by
  have hlen : s.cfg.frameLen ≤ 63 := Nat.add_le_add_left (Nat.le_of_lt_succ s.cfg.ckW.isLt) 32
  exact (BitVec.toNat_add _ _).trans (Nat.mod_eq_of_lt (Nat.succ_lt_succ (hlt.trans_le hlen)))

/-- Pulses that classify as the bits missing to a complete frame: the validator gets the buffer with all of them appended,
once. -/
theorem feedPulses_of_complete {s : State} {ps : List Pulse} {bs : List Bool} (hst : s.br.st = .receiving)
    (hps : (ps.map fun pulse => classify s.cfg pulse.duration) = bs.map some)
    (hlen : s.br.nbits.toNat + bs.length = s.cfg.frameLen) (hlt : s.br.nbits.toNat < s.cfg.frameLen) :
    feedPulses ps s = { validate (bs.foldl appendBit s.br.buf) s with br := BitRecoverer.reset } := by
  induction bs generalizing s ps with
  | nil => exact absurd hlen hlt.ne
  | cons b bs ih =>
    obtain ⟨pulse, ps, rfl, hb, hps⟩ := List.map_eq_cons_iff.1 hps
    rw [List.length_cons] at hlen
    rw [feedPulses, List.foldl_cons]
    by_cases hn : s.br.nbits.toNat + 1 = s.cfg.frameLen
    · obtain rfl : bs = [] := List.length_eq_zero_iff.1 (by omega)
      obtain rfl : ps = [] := List.map_eq_nil_iff.1 hps
      exact bitRecoverer_of_complete hst hb hn
    · have hnext := withBit_nbits_toNat hlt b
      have hlen' : (withBit b s).br.nbits.toNat + bs.length = (withBit b s).cfg.frameLen := by
        rw [hnext, Nat.add_right_comm]; exact hlen
      have hlt' : (withBit b s).br.nbits.toNat < (withBit b s).cfg.frameLen := by
        rw [hnext]; exact Nat.lt_of_le_of_ne hlt hn
      rw [bitRecoverer_of_partial hst hb hn, ih (s := withBit b s) hst hps hlen' hlt', withBit, validate_withRecoverer]

/-- From the state a complete preamble leaves, the pulses of a whole frame are one verdict on its data and checksum. -/
theorem feedPulses_frame {s : State} {id : BitVec 24} {st : BitVec 8} {ck : BitVec 16} {ps : List Pulse} (hs : s.Running)
    (hbr : s.br = ⟨.receiving, 0, 0, 0⟩) (hck : ck.toNat < 2 ^ s.cfg.ckW.toNat)
    (hps : (ps.map fun pulse => classify s.cfg pulse.duration) = (frameBits id st ck s.cfg.ckW.toNat).map some) :
    feedPulses ps s = { if crc s.cfg (id ++ st) = ck then acceptFrame id st ck s else rejectFrame s with
      br := BitRecoverer.reset } := by
  obtain ⟨⟨-, hvalid, -⟩, he⟩ := hs
  obtain ⟨-, -, -, -, -, ⟨-, hw⟩, -⟩ := (s.cfg.valid_iff _).1 (hvalid he)
  have hempty : s.br.nbits.toNat = 0 := by rw [hbr]; rfl
  have hbuf : (frameBits id st ck s.cfg.ckW.toNat).foldl appendBit s.br.buf =
      BitVec.ofNat 48 ((id ++ st).toNat * 2 ^ s.cfg.ckW.toNat + ck.toNat) := by
    rw [hbr]
    exact foldl_appendBit_frameBits id st hck
  rw [feedPulses_of_complete (by rw [hbr]) hps (by rw [hempty, length_frameBits, Nat.zero_add, CfgRegs.frameLen])
    (by rw [hempty, CfgRegs.frameLen]; omega), hbuf, validate_frameBuffer hw id st hck]

theorem Counters.countOk_eq (overwrite : Bool) (c : Counters) :
    c.countOk overwrite = { c with ok := c.ok + 1, ovwr := c.ovwr + (if overwrite then 1 else 0) } := by
  cases overwrite <;> simp [Counters.countOk]

/-- Settles O37: a computed checksum fits in CK_W bits, so `feedPulses_frame` applies and its verdict is Accept. -/
theorem wellFormedFrameIsAcceptedExactlyOnce : Obligations.WellFormedFrameIsAcceptedExactlyOnce := by
  intro s id st ck ps hs hbr hck hps
  rw [feedPulses_frame hs hbr (hck ▸ crc_lt s.cfg _) hps, if_pos hck.symm, acceptFrame, Counters.countOk_eq]
  rfl

/-- Settles O38: the verdict of `feedPulses_frame` on another checksum than the computed one is Reject. -/
theorem wrongChecksumFrameIsRejectedOnce : Obligations.WrongChecksumFrameIsRejectedOnce := by
  intro s id st ck ps hs hbr hlt hck hps
  rw [feedPulses_frame hs hbr hlt hps, if_neg hck.symm]
  rfl

end Sys2Proof.Machine

namespace Sys2Proof.Machine

/-! ### Format S (30_encoding.md R82) -/

/-- A component in range survives the SAMPLE_W wires of its half of the beat. -/
theorem toInt_ofInt_of_inRange {p : Params} (hp : p.Legal) {x : Int} (hx : componentInRange p x = true) :
    (BitVec.ofInt p.sampleW x).toInt = x := by
  obtain ⟨⟨hpos, -⟩, -⟩ := hp
  obtain ⟨hlow, hhigh⟩ := Bool.and_eq_true_iff.1 hx
  exact BitVec.toInt_ofInt_eq_self hpos (of_decide_eq_true hlow) (Int.lt_of_le_sub_one (of_decide_eq_true hhigh))

theorem decodeBeat_encodeBeat {p : Params} (hp : p.Legal) {i q : Int} (h : (Instr.smp i q).wellFormed p = true) :
    decodeBeat p (encodeBeat p i q) = .smp i q := by
  obtain ⟨hi, hq⟩ := Bool.and_eq_true_iff.1 h
  have hwires : p.sampleW + p.sampleW ≤ 32 := by
    obtain ⟨⟨-, hle⟩, -⟩ := hp
    omega
  rw [decodeBeat, encodeBeat, signedField, signedField, BitVec.extractLsb'_setWidth_of_le hwires,
    BitVec.extractLsb'_setWidth_of_le (by omega), BitVec.extractLsb'_append_eq_left, BitVec.extractLsb'_append_eq_right,
    toInt_ofInt_of_inRange hp hi, toInt_ofInt_of_inRange hp hq]

/-- Settles O1: a sample is `decodeBeat_encodeBeat`; a host operation's command byte is its own row of the decoder, and
its data word is carried whole. -/
theorem decodeOfEncodeIsTheOperation : Obligations.DecodeOfEncodeIsTheOperation := by
  intro p i hp hwf
  cases i with
  | smp i q => exact congrArg Decoded.op (decodeBeat_encodeBeat hp hwf)
  | _ => rfl

/-- A signed field is congruent to the bits it is read from. -/
theorem signedField_emod (b : BeatWord) (lo width : Nat) :
    signedField b lo width % 2 ^ width = (b.toNat / 2 ^ lo : Nat) % 2 ^ width := by
  have hbits : (b.extractLsb' lo width).toNat = b.toNat / 2 ^ lo % 2 ^ width := by
    rw [BitVec.extractLsb'_toNat, Nat.shiftRight_eq_div_pow]
  have hmod : signedField b lo width % (2 ^ width : Nat) =
      (b.toNat / 2 ^ lo % 2 ^ width : Nat) % (2 ^ width : Nat) := by
    rw [signedField, BitVec.toInt_eq_toNat_bmod, Int.bmod_emod, hbits]
  rw [Int.natCast_emod, Int.emod_emod] at hmod
  exact_mod_cast hmod

/-- Settles O3: `signedField_emod` for the two halves; `decode_wellFormed` is the range. -/
theorem beatDecodesToItsTwoHalves : Obligations.BeatDecodesToItsTwoHalves := by
  refine ⟨fun p b _ => ?_, by decide, by decide⟩
  refine ⟨signedField b p.sampleW p.sampleW, signedField b 0 p.sampleW, rfl, decode_wellFormed (w := .beat b) rfl,
    signedField_emod b _ _, ?_⟩
  simpa using signedField_emod b 0 p.sampleW

/-! ### Format H (30_encoding.md R80, R81) -/

/-- One bit of a word as a field of width 1. -/
theorem bit_getLsbD {n : Nat} (x : BitVec n) (i : Nat) : bit (x.getLsbD i) = x.extractLsb' i 1 := by
  ext j hj
  obtain rfl : j = 0 := by omega
  simp [bit]

/-- A command byte is its fields WE, RSV and IDX. -/
theorem commandByte_eq_fields (c : CommandByte) :
    c = bit (c.getLsbD 7) ++ c.extractLsb' 4 3 ++ c.extractLsb' 0 4 := by
  rw [bit_getLsbD, BitVec.extractLsb'_append_extractLsb'_eq_extractLsb' (show 7 = 4 + 3 from rfl),
    BitVec.extractLsb'_append_extractLsb'_eq_extractLsb' (show 4 = 0 + 4 from rfl), BitVec.extractLsb'_eq_self]

theorem decodeHost_read (idx : BitVec 4) (d : Word) :
    decodeHost (bit false ++ 0#3 ++ idx) d = .op (readInstr idx) := by
  obtain ⟨n⟩ := idx
  fin_cases n <;> rfl

theorem decodeHost_write (idx : BitVec 4) (d : Word) :
    decodeHost (bit true ++ 0#3 ++ idx) d = .op (writeInstr idx d) := by
  obtain ⟨n⟩ := idx
  fin_cases n <;> rfl

/-- Each of the 32 rows of the decoder has RSV = 000, so a byte with another RSV falls through to the last one. -/
theorem decodeHost_of_reserved {c : CommandByte} (hrsv : c.extractLsb' 4 3 ≠ 0) (d : Word) :
    decodeHost c d = if c.getLsbD 7 then .reservedWrite else .reservedRead := by
  unfold decodeHost
  split
  case h_33 => rfl
  all_goals
    next hrow =>
      rw [BitVec.extractLsb', hrow] at hrsv
      exact absurd rfl hrsv

/-- Settles O2: the byte is its three fields, and the lemmas above are the decoder in those fields. -/
theorem commandByteDecodesByItsFields : Obligations.CommandByteDecodesByItsFields := by
  intro p c d
  have hfields := commandByte_eq_fields c
  refine ⟨fun hrsv => decodeHost_of_reserved hrsv d, fun hrsv hwe => ?_, fun hrsv hwe => ?_⟩ <;>
    rw [hrsv, hwe] at hfields
  · exact (congrArg (decodeHost · d) hfields).trans (decodeHost_read _ d)
  · exact (congrArg (decodeHost · d) hfields).trans (decodeHost_write _ d)

/-- Settles O4: the decoder evaluated on the written-out words. -/
theorem writtenOutWordsDecode : Obligations.WrittenOutWordsDecode := by
  unfold Obligations.WrittenOutWordsDecode
  decide

/-! ### Reserved commands (30_encoding.md R85) -/

theorem step_of_reservedRead {s : State} {w : PortWord} {rest : List ClockInput} (hn : nextOp s.inputs = .word w rest)
    (hd : decode s.params w = .reservedRead) : step s = .next (respond 0 (withInputs rest s)) := by
  simp [step, hn, hd, reservedRead_eq]

theorem step_of_reservedWrite {s : State} {w : PortWord} {rest : List ClockInput} (hn : nextOp s.inputs = .word w rest)
    (hd : decode s.params w = .reservedWrite) : step s = .next (withInputs rest s) := by
  simp [step, hn, hd, reservedWrite_eq]

/-- Settles O10: by `decodeHost_of_reserved` bit 7 tells which of the two reserved steps is taken. -/
theorem reservedCommandChangesNothing : Obligations.ReservedCommandChangesNothing := by
  refine ⟨fun s h rest hin hrsv => ?_, rfl⟩
  have hn : nextOp s.inputs = .word (.host h.cmd h.data) rest := hin ▸ nextOp_host h rest
  have hd := decodeHost_of_reserved hrsv h.data
  refine ⟨fun hread => ?_, fun hwrite => ?_⟩
  · exact step_of_reservedRead hn (hd.trans (if_neg (Bool.eq_false_iff.1 hread)))
  · exact step_of_reservedWrite hn (hd.trans (if_pos hwrite))

/-! ### The configuration registers as read back (30_encoding.md R84) -/

theorem field_append_field (v : Word) : field v 16 16 ++ field v 0 16 = v := by
  rw [field, field, BitVec.extractLsb'_append_extractLsb'_eq_extractLsb' (show 16 = 0 + 16 from rfl),
    BitVec.extractLsb'_eq_self]

/-- A mask of the low bits keeps them and clears the others. -/
theorem and_zero_append_allOnes {hi lo : Nat} (v : BitVec (hi + lo)) :
    v &&& (0#hi ++ BitVec.allOnes lo) = 0#hi ++ v.extractLsb' 0 lo := by
  ext i h
  rw [BitVec.getElem_and, BitVec.getElem_append, BitVec.getElem_append]
  split <;> simp [*]

/-- A mask of three kept fields with a cleared gap above and between them keeps and clears just those. -/
theorem and_alternating_mask {a b c d e : Nat} (gap₁ : BitVec a) (f₁ : BitVec b) (gap₂ : BitVec c) (f₂ : BitVec d)
    (f₃ : BitVec e) :
    (gap₁ ++ f₁ ++ gap₂ ++ f₂ ++ f₃) &&&
        (0#a ++ BitVec.allOnes b ++ 0#c ++ BitVec.allOnes d ++ BitVec.allOnes e) = 0#a ++ f₁ ++ 0#c ++ f₂ ++ f₃ := by
  simp only [BitVec.and_append, BitVec.and_zero, BitVec.and_allOnes]

theorem zero_append_lowHalf (v : Word) : 0#16 ++ field v 0 16 = v &&& 0x0000FFFF :=
  (and_zero_append_allOnes (hi := 16) (lo := 16) v).symm

section CfgReadBack
variable (v : Word) (c : CfgRegs)

theorem edCfg_setEdCfg : (c.setEdCfg v).edCfg = v := field_append_field v

theorem ptCfg_setPtCfg : (c.setPtCfg v).ptCfg = v &&& 0x0000FFFF := zero_append_lowHalf v

theorem brNom_setBrNom : (c.setBrNom v).brNom = v := field_append_field v

/-- The word and the mask, cut alike: the mask is all ones at TOL, SHORT_BIT and PRE_LEN and 0 between them. -/
theorem brCfg_setBrCfg : (c.setBrCfg v).brCfg = v &&& 0x003F01FF := by
  have hword : v = field v 22 10 ++ field v 16 6 ++ field v 9 7 ++ field v 8 1 ++ field v 0 8 := by
    simp only [field]
    rw [BitVec.extractLsb'_append_extractLsb'_eq_extractLsb' (show 22 = 16 + 6 from rfl),
      BitVec.extractLsb'_append_extractLsb'_eq_extractLsb' (show 16 = 9 + 7 from rfl),
      BitVec.extractLsb'_append_extractLsb'_eq_extractLsb' (show 9 = 8 + 1 from rfl),
      BitVec.extractLsb'_append_extractLsb'_eq_extractLsb' (show 8 = 0 + 8 from rfl), BitVec.extractLsb'_eq_self]
  have hmask : (0x003F01FF : Word) =
      0#10 ++ BitVec.allOnes 6 ++ 0#7 ++ BitVec.allOnes 1 ++ BitVec.allOnes 8 := rfl
  calc (c.setBrCfg v).brCfg
    _ = 0#10 ++ field v 16 6 ++ 0#7 ++ field v 8 1 ++ field v 0 8 := by
      rw [CfgRegs.brCfg, CfgRegs.setBrCfg, bit_getLsbD, field, field, field]
    _ = v &&& 0x003F01FF := by
      conv_rhs => rw [hword, hmask]
      exact (and_alternating_mask ..).symm

theorem prePat_setPrePat : (c.setPrePat v).prePat = v := rfl

theorem ckCfg_setCkCfg : (c.setCkCfg v).ckCfg = v &&& 0x0000001F :=
  (and_zero_append_allOnes (hi := 27) (lo := 5) v).symm

theorem ckPolyReg_setCkPoly : (c.setCkPoly v).ckPolyReg = v := field_append_field v

theorem ckXorReg_setCkXor : (c.setCkXor v).ckXorReg = v &&& 0x0000FFFF := zero_append_lowHalf v

end CfgReadBack

/-- The configuration after `v` is written to register `idx`; only the configuration registers have fields in it. -/
def CfgRegs.setReg (idx : BitVec 4) (v : Word) (c : CfgRegs) : CfgRegs :=
  match idx.toNat with
  | 2 => c.setEdCfg v
  | 3 => c.setPtCfg v
  | 4 => c.setBrNom v
  | 5 => c.setBrCfg v
  | 6 => c.setPrePat v
  | 7 => c.setCkCfg v
  | 8 => c.setCkPoly v
  | 9 => c.setCkXor v
  | _ => c

theorem isCfgIndex_cases {idx : BitVec 4} (h : isCfgIndex idx) :
    idx = 2 ∨ idx = 3 ∨ idx = 4 ∨ idx = 5 ∨ idx = 6 ∨ idx = 7 ∨ idx = 8 ∨ idx = 9 := by
  revert idx
  decide

/-- A write of a configuration register is `WR_CFG` of its fields (44_host_ops.md R205). -/
theorem exec_writeInstr_of_cfgIndex {idx : BitVec 4} (h : isCfgIndex idx) (v : Word) (s : State) :
    exec (writeInstr idx v) s = .next (writeCfg (CfgRegs.setReg idx v) s) := by
  rcases isCfgIndex_cases h with rfl | rfl | rfl | rfl | rfl | rfl | rfl | rfl <;> rfl

/-- A configuration register reads the word written to it under its write mask. -/
theorem regRead_setReg {idx : BitVec 4} (h : isCfgIndex idx) (v : Word) (s : State) :
    State.regRead idx { s with cfg := s.cfg.setReg idx v } = v &&& wmask idx := by
  have hfull : v &&& 0xFFFFFFFF#32 = v := BitVec.and_allOnes
  rcases isCfgIndex_cases h with rfl | rfl | rfl | rfl | rfl | rfl | rfl | rfl
  · exact (edCfg_setEdCfg v s.cfg).trans hfull.symm
  · exact ptCfg_setPtCfg v s.cfg
  · exact (brNom_setBrNom v s.cfg).trans hfull.symm
  · exact brCfg_setBrCfg v s.cfg
  · exact (prePat_setPrePat v s.cfg).trans hfull.symm
  · exact ckCfg_setCkCfg v s.cfg
  · exact (ckPolyReg_setCkPoly v s.cfg).trans hfull.symm
  · exact ckXorReg_setCkXor v s.cfg

/-- A read of a configuration register only returns its word. -/
theorem exec_readInstr_of_cfgIndex {idx : BitVec 4} (h : isCfgIndex idx) (s : State) :
    exec (readInstr idx) s = .next (respond (s.regRead idx) s) := by
  have hidx : idx ≠ 10 := by
    rintro rfl
    exact absurd h (by decide)
  rw [exec_readInstr, if_neg hidx]

/-- Settles O52: the table is `wmask` on the configuration registers, and `regRead_setReg` is what the read returns. -/
theorem configurationReadsBackMasked : Obligations.ConfigurationReadsBackMasked := by
  intro s idx v mask he hmem
  obtain ⟨hidx, rfl⟩ : isCfgIndex idx ∧ mask = wmask idx := by
    simp only [List.mem_cons, Prod.mk.injEq, List.not_mem_nil, or_false] at hmem
    rcases hmem with ⟨rfl, rfl⟩ | ⟨rfl, rfl⟩ | ⟨rfl, rfl⟩ | ⟨rfl, rfl⟩ | ⟨rfl, rfl⟩ | ⟨rfl, rfl⟩ | ⟨rfl, rfl⟩ |
      ⟨rfl, rfl⟩ <;> decide
  refine ⟨_, _, exec_writeInstr_of_cfgIndex hidx v s, exec_readInstr_of_cfgIndex hidx _, ?_⟩
  rw [writeCfg_of_disabled he, respond_readLog, regRead_setReg hidx]

end Sys2Proof.Machine

namespace Sys2Proof.Machine

/-! ### The carrier decision (40_sample_path.md R102, R103, R106) -/

/-- The power is the exact sum of squares, on integers (40_sample_path.md R102). -/
theorem power_cast (i q : Int) : (power i q : Int) = i * i + q * q :=
  Int.toNat_of_nonneg (add_nonneg (mul_self_nonneg i) (mul_self_nonneg q))

theorem power_of_cast_eq {i q : Int} {p : Nat} (h : i * i + q * q = p) : power i q = p := by
  rw [power, h, Int.toNat_natCast]

theorem detect_iff (p : Nat) (hist : List Nat) (thr : BitVec 16) :
    detect p hist thr = true ↔ hist.sum * thr.toNat < p * hist.length * 256 := decide_eq_true_iff

/-- The decision in naturals is R103's inequality on mathematical integers. -/
theorem detect_power_iff (i q : Int) (s : State) :
    detect (power i q) s.ed.hist s.cfg.thrFactor = true ↔ carrierPresent i q s := by
  rw [detect_iff, carrierPresent, ← power_cast]
  norm_cast

theorem detect_nil (p : Nat) (thr : BitVec 16) : detect p [] thr = false := by simp [detect]

theorem detect_zero_power (hist : List Nat) (thr : BitVec 16) : detect 0 hist thr = false := by simp [detect]

theorem detect_zero_factor_iff (p : Nat) (hist : List Nat) : detect p hist 0 = true ↔ 0 < p ∧ 1 ≤ hist.length := by
  simp [detect_iff, Nat.one_le_iff_ne_zero, Nat.pos_iff_ne_zero]

/-- A history whose sum is a multiple of the beat's own power: the power cancels from the decision. -/
theorem detect_iff_of_sum_eq_mul {p m : Nat} (hp : 0 < p) {hist : List Nat} (hsum : hist.sum = m * p)
    (thr : BitVec 16) : detect p hist thr = true ↔ m * thr.toNat < hist.length * 256 := by
  have hleft : hist.sum * thr.toNat = p * (m * thr.toNat) := by rw [hsum]; ring
  rw [detect_iff, hleft, Nat.mul_assoc, Nat.mul_lt_mul_left hp]

theorem sum_of_twoLevel {p : Nat} {hist : List Nat} (h : ∀ x ∈ hist, x = p ∨ x = 0) :
    hist.sum = hist.count p * p :=
  List.sum_eq_nsmul_single p fun x hne hx => (h x hx).resolve_left hne

/-- Constant input: present exactly below factor 1 (40_sample_path.md R106). -/
theorem detect_constant_iff {p : Nat} (hp : 0 < p) {hist : List Nat} (hne : 0 < hist.length) (h : ∀ x ∈ hist, x = p)
    (thr : BitVec 16) : detect p hist thr = true ↔ thr.toNat < 256 := by
  rw [detect_iff_of_sum_eq_mul hp (List.sum_eq_card_nsmul hist p h), Nat.mul_lt_mul_left hne]

/-- Two-level input: the high samples in the history are counted against its length (40_sample_path.md R106). -/
theorem detect_twoLevel_iff {p : Nat} (hp : 0 < p) {hist : List Nat} (h : ∀ x ∈ hist, x = p ∨ x = 0)
    (thr : BitVec 16) : detect p hist thr = true ↔ hist.count p * thr.toNat < hist.length * 256 :=
  detect_iff_of_sum_eq_mul hp (sum_of_twoLevel h) thr

/-- Below factor 1 every high sample of a two-level input is present, once there is a history. -/
theorem detect_twoLevel_of_factor_lt {p : Nat} (hp : 0 < p) {hist : List Nat} (hne : 0 < hist.length)
    (h : ∀ x ∈ hist, x = p ∨ x = 0) {thr : BitVec 16} (hthr : thr.toNat < 256) : detect p hist thr = true := by
  rw [detect_twoLevel_iff hp h]
  calc hist.count p * thr.toNat
    _ ≤ hist.length * thr.toNat := Nat.mul_le_mul_right _ List.count_le_length
    _ < hist.length * 256 := Nat.mul_lt_mul_of_pos_left hthr hne

/-! ### The SAMPLE operation (40_sample_path.md R100 to R104) -/

theorem acceptBeat_ed (i q : Int) (s : State) :
    (acceptBeat i q s).ed = energyDetector s.cfg (power i q) s.ed := by
  obtain ⟨-, -, -, -, -, hed, -⟩ := acceptBeat_frame i q s
  exact hed

theorem acceptBeat_pt (i q : Int) (s : State) :
    (acceptBeat i q s).pt = (pulseTimer s.cfg.minPulse (detect (power i q) s.ed.hist s.cfg.thrFactor) s.pt).1 := by
  obtain ⟨-, -, -, -, -, -, hpt, -⟩ := acceptBeat_frame i q s
  exact hpt

@[simp] theorem acceptBeat_carrier (i q : Int) (s : State) :
    (acceptBeat i q s).ed.carrier = detect (power i q) s.ed.hist s.cfg.thrFactor := by
  rw [acceptBeat_ed, energyDetector]

@[simp] theorem acceptBeat_hist (i q : Int) (s : State) :
    (acceptBeat i q s).ed.hist = (power i q :: s.ed.hist).take s.cfg.edWin.toNat := by
  rw [acceptBeat_ed, energyDetector, pushPower]

/-- Settles O18: `execSmp_of_disabled`. -/
theorem disabledBeatChangesNothing : Obligations.DisabledBeatChangesNothing :=
  fun _ i q he => execSmp_of_disabled he i q

/-- Settles O19: `acceptBeat_carrier` and `acceptBeat_hist`, the decision read on integers by `detect_power_iff`. -/
theorem sampleBeatDetectsAndUpdatesTheBaseline : Obligations.SampleBeatDetectsAndUpdatesTheBaseline := by
  intro s i q he
  refine ⟨acceptBeat i q s, execSmp_of_enabled he i q, ?decision, fun hnil => ?empty, acceptBeat_hist i q s⟩
  case decision => rw [acceptBeat_carrier, detect_power_iff]
  case empty => rw [acceptBeat_carrier, hnil, detect_nil]

/-- Settles O20: `acceptBeat_frame` while enabled, and nothing changes while disabled. -/
theorem sampleBeatFrame : Obligations.SampleBeatFrame := by
  intro s i q
  cases he : s.enable with
  | false => exact ⟨s, execSmp_of_disabled he i q, ⟨rfl, rfl, rfl, rfl, rfl, rfl, rfl⟩, rfl⟩
  | true =>
    obtain ⟨hparams, hcfg, hen, hirq, herr, -, -, hidx, hin, hlog⟩ := acceptBeat_frame i q s
    exact ⟨acceptBeat i q s, execSmp_of_enabled he i q, ⟨hparams, hcfg, hen, hirq, herr, hin, hlog⟩, hidx⟩

/-- The greatest power, of the most negative components (40_sample_path.md R102). -/
theorem power_most_negative {w : Nat} (hw : 1 ≤ w) :
    power (-(2 ^ (w - 1))) (-(2 ^ (w - 1))) = 2 ^ (2 * w - 1) := by
  obtain ⟨n, rfl⟩ : ∃ n, w = n + 1 := ⟨w - 1, by omega⟩
  have hexp : 2 * (n + 1) - 1 = n + n + 1 := by omega
  apply power_of_cast_eq
  rw [Nat.add_sub_cancel, hexp]
  push_cast
  ring

/-- Settles O21: ED_WIN is at least 1 in a running state, so the beat's power heads the history; `power_le` bounds it. -/
theorem powerIsExactAndBounded : Obligations.PowerIsExactAndBounded := by
  rintro s i q ⟨⟨⟨⟨hW, -⟩, -⟩, hvalid, -⟩, he⟩ hwf
  obtain ⟨⟨hwin, -⟩, -⟩ := (s.cfg.valid_iff _).1 (hvalid he)
  refine ⟨acceptBeat i q s, power i q, execSmp_of_enabled he i q, ?head, ?exact, power_le hW hwf, ?attained⟩
  case head => rw [acceptBeat_hist, List.head?_take, if_neg (Nat.one_le_iff_ne_zero.1 hwin), List.head?_cons]
  case exact => rw [power_cast, sq, sq]
  case attained =>
    rintro rfl rfl
    exact power_most_negative hW

/-- Settles O22: each clause is the case of `detect` named for it, at the beat's power. -/
theorem carrierDecisionCornerCases : Obligations.CarrierDecisionCornerCases := by
  intro s i q he
  refine ⟨acceptBeat i q s, execSmp_of_enabled he i q, ?factorZero, ?zeroPower, ?constant, ?twoLevel, ?samePower⟩ <;>
    simp only [acceptBeat_carrier]
  case factorZero =>
    intro hthr
    rw [hthr, detect_zero_factor_iff, ← power_cast, Int.natCast_pos]
  case zeroPower =>
    intro hzero
    rw [power_of_cast_eq (p := 0) hzero, detect_zero_power]
  case constant =>
    intro P hP hpow hne hall
    rw [power_of_cast_eq hpow, detect_constant_iff hP hne hall]
  case twoLevel =>
    intro P hP hpow hall
    rw [power_of_cast_eq hpow]
    refine ⟨fun hfull => ?_, fun hthr hne => detect_twoLevel_of_factor_lt hP hne hall hthr⟩
    rw [detect_twoLevel_iff hP hall, hfull, gt_iff_lt]
  case samePower =>
    intro i' q' heq
    refine ⟨acceptBeat i' q' s, execSmp_of_enabled he i' q', ?_⟩
    rw [acceptBeat_carrier, power_of_cast_eq (heq.trans (power_cast i q).symm)]

/-! ### Decoding does not read the result, the counters or the flags (92_eei_decisions.md D18) -/

/-- A pulse moves the recoverer by the configuration and the recoverer's own state: the verdict on a complete frame
leaves the same recoverer either way. -/
theorem bitRecoverer_br_congr {s s' : State} (pulse : Pulse) (hcfg : s'.cfg = s.cfg) (hbr : s'.br = s.br) :
    (bitRecoverer pulse s').br = (bitRecoverer pulse s).br := by
  cases hst : s.br.st with
  | idle => rw [bitRecoverer_idle hst, bitRecoverer_idle (hbr ▸ hst), hcfg, hbr]
  | sync => rw [bitRecoverer_sync hst, bitRecoverer_sync (hbr ▸ hst), hcfg, hbr]
  | frameReady => simp only [bitRecoverer, hbr, hst]
  | receiving =>
    have hst' : s'.br.st = .receiving := hbr ▸ hst
    cases hb : classify s.cfg pulse.duration with
    | none => simp only [bitRecoverer_receiving, hst, receivePulse, hcfg, hb, framingError_br, hbr]
    | some b =>
      have hb' : classify s'.cfg pulse.duration = some b := hcfg ▸ hb
      by_cases hn : s.br.nbits.toNat + 1 = s.cfg.frameLen
      · rw [bitRecoverer_of_complete hst hb hn, bitRecoverer_of_complete hst' hb' (by rw [hcfg, hbr, hn])]
      · rw [bitRecoverer_of_partial hst hb hn, bitRecoverer_of_partial hst' hb' (by rwa [hcfg, hbr]), withBit, withBit,
          hbr]

/-- A beat moves the datapath by the configuration and the datapath alone. -/
theorem acceptBeat_datapath_congr {s s' : State} (i q : Int) (hcfg : s'.cfg = s.cfg) (hed : s'.ed = s.ed)
    (hpt : s'.pt = s.pt) (hbr : s'.br = s.br) :
    (acceptBeat i q s').ed = (acceptBeat i q s).ed ∧ (acceptBeat i q s').pt = (acceptBeat i q s).pt ∧
      (acceptBeat i q s').br = (acceptBeat i q s).br := by
  have hpulse : endedPulse i q s' = endedPulse i q s := by rw [endedPulse, endedPulse, hcfg, hed, hpt]
  refine ⟨?detector, ?timer, ?recoverer⟩
  case detector => rw [acceptBeat_ed, acceptBeat_ed, hcfg, hed]
  case timer => rw [acceptBeat_pt, acceptBeat_pt, hcfg, hed, hpt]
  case recoverer =>
    rw [acceptBeat, acceptBeat, hpulse]
    cases endedPulse i q s with
    | none => exact hbr
    | some pulse => exact bitRecoverer_br_congr pulse hcfg hbr

/-- Settles O60: `acceptBeat_datapath_congr` while enabled, and no datapath moves while disabled. -/
theorem resultsDoNotInfluenceDecoding : Obligations.ResultsDoNotInfluenceDecoding := by
  intro s i q out cnt irqEn cfgErr
  cases he : s.enable with
  | false => exact ⟨s, _, execSmp_of_disabled he i q, execSmp_of_disabled rfl i q, rfl, rfl, rfl⟩
  | true =>
    exact ⟨_, _, execSmp_of_enabled he i q, execSmp_of_enabled rfl i q, acceptBeat_datapath_congr i q rfl rfl rfl rfl⟩

end Sys2Proof.Machine

namespace Sys2Proof.Machine

/-! ### One beat in the pulse timer (41_pulse_timer.md R120 to R123) -/

/-- A beat in which the timer emits no pulse reaches the timer alone. -/
theorem acceptBeat_of_noPulse {i q : Int} {s : State} {pt : PulseTimer}
    (h : pulseTimer s.cfg.minPulse (detect (power i q) s.ed.hist s.cfg.thrFactor) s.pt = (pt, none)) :
    (acceptBeat i q s).pt = pt ∧ (acceptBeat i q s).br = s.br ∧ (acceptBeat i q s).out = s.out ∧
      (acceptBeat i q s).cnt = s.cnt := by
  have hended : endedPulse i q s = none := by rw [endedPulse, h]
  refine ⟨by rw [acceptBeat_pt, h], ?_⟩
  rw [acceptBeat, hended]
  exact ⟨rfl, rfl, rfl⟩

/-- A pulse the timer emits reaches the bit recoverer in the same beat (40_sample_path.md R108). -/
theorem acceptBeat_of_pulse {i q : Int} {s : State} {pt : PulseTimer} {pulse : Pulse}
    (h : pulseTimer s.cfg.minPulse (detect (power i q) s.ed.hist s.cfg.thrFactor) s.pt = (pt, some pulse)) :
    (acceptBeat i q s).pt = pt ∧ (acceptBeat i q s).br = (bitRecoverer pulse s).br ∧
      (acceptBeat i q s).out = (bitRecoverer pulse s).out ∧ (acceptBeat i q s).cnt = (bitRecoverer pulse s).cnt := by
  have hended : endedPulse i q s = some pulse := by rw [endedPulse, h]
  refine ⟨by rw [acceptBeat_pt, h], ?_⟩
  rw [acceptBeat, hended]
  exact bitRecoverer_congr pulse rfl rfl rfl rfl

/-- The timer compares levels by the decision, the spec by the carrier. -/
theorem detect_eq_iff (i q : Int) (s : State) (b : Bool) :
    detect (power i q) s.ed.hist s.cfg.thrFactor = b ↔ (b = true ↔ carrierPresent i q s) := by
  rw [Bool.eq_iff_iff, detect_power_iff]
  exact iff_comm

/-- The run that reaches MIN_PULSE becomes the new pulse: the other level, duration MIN_PULSE (41_pulse_timer.md
R123). -/
theorem pulseTimer_confirms {m : BitVec 16} {c : Bool} {pt : PulseTimer} (h : pt.started = true) (hc : c ≠ pt.level)
    (hg : pt.glitch.toNat + 1 = m.toNat) :
    pulseTimer m c pt = (⟨true, !pt.level, m, 0⟩, some ⟨pt.level, pt.count⟩) := by
  rw [pulseTimer_ends h hc hg.not_lt, hg, BitVec.ofNat_toNat, BitVec.setWidth_eq, Bool.eq_not_of_ne hc, h]

/-- The unconfirmed run counts one more while it stays below MIN_PULSE, without wrapping. -/
theorem glitch_succ_toNat {m g : BitVec 16} (h : g.toNat + 1 < m.toNat) :
    (BitVec.ofNat 16 (g.toNat + 1)).toNat = g.toNat + 1 :=
  (BitVec.toNat_ofNat _ _).trans (Nat.mod_eq_of_lt (h.trans m.isLt))

/-- Settles O23: `pulseTimer_first` in the beat. -/
theorem firstBeatStartsTheFirstPulse : Obligations.FirstBeatStartsTheFirstPulse := by
  intro s i q he hst
  refine ⟨acceptBeat i q s, execSmp_of_enabled he i q, ?_⟩
  rw [acceptBeat_carrier]
  exact acceptBeat_of_noPulse (pulseTimer_first s.cfg.minPulse _ hst)

/-- Settles O24: `pulseTimer_same` in the beat. -/
theorem sameLevelBeatExtendsThePulse : Obligations.SameLevelBeatExtendsThePulse := by
  intro s i q he hst hlevel
  have hsame := pulseTimer_same s.cfg.minPulse hst ((detect_eq_iff i q s _).2 hlevel)
  obtain ⟨hpt, hrest⟩ := acceptBeat_of_noPulse hsame
  refine ⟨acceptBeat i q s, execSmp_of_enabled he i q, ?_⟩
  rw [hpt]
  exact ⟨hst, rfl, sat16_toNat _, rfl, hrest⟩

/-- Settles O25: `pulseTimer_glitch` below MIN_PULSE. The invariant keeps the run below MIN_PULSE, so a beat that does
not leave it there brings it to exactly MIN_PULSE: `pulseTimer_confirms`. -/
theorem otherLevelBeatGlitchesOrEndsThePulse : Obligations.OtherLevelBeatGlitchesOrEndsThePulse := by
  rintro s i q ⟨⟨-, -, -, ⟨-, -, hrun⟩, -⟩, he⟩ hst hlevel
  have hc := mt (detect_eq_iff i q s s.pt.level).1 hlevel
  refine ⟨acceptBeat i q s, execSmp_of_enabled he i q, ?_⟩
  by_cases hg : s.pt.glitch.toNat + 1 < s.cfg.minPulse.toNat
  · obtain ⟨hpt, hrest⟩ := acceptBeat_of_noPulse (pulseTimer_glitch hst hc hg)
    rw [hpt]
    exact ⟨hst, fun _ => ⟨rfl, rfl, glitch_succ_toNat hg, hrest⟩, fun hn => absurd hg hn⟩
  · have hfull : s.pt.glitch.toNat + 1 = s.cfg.minPulse.toNat := Nat.le_antisymm (hrun he) (Nat.le_of_not_lt hg)
    obtain ⟨hpt, hrest⟩ := acceptBeat_of_pulse (pulseTimer_confirms hst hc hfull)
    rw [hpt]
    exact ⟨rfl, fun h => absurd h hg, fun _ => ⟨rfl, rfl, rfl, hrest⟩⟩

/-! ### A sequence of beats in the pulse timer (41_pulse_timer.md R124) -/

theorem emittedPulses_cons (m : BitVec 16) (pt : PulseTimer) (c : Bool) (cs : List Bool) :
    emittedPulses m pt (c :: cs) = (pulseTimer m c pt).2.toList ++ emittedPulses m (pulseTimer m c pt).1 cs := by
  rw [emittedPulses]
  rcases pulseTimer m c pt with ⟨pt', _ | pulse⟩ <;> rfl

theorem timerAfter_cons (m : BitVec 16) (pt : PulseTimer) (c : Bool) (cs : List Bool) :
    timerAfter m pt (c :: cs) = timerAfter m (pulseTimer m c pt).1 cs := rfl

theorem emittedPulses_reset_cons (m : BitVec 16) (c : Bool) (cs : List Bool) :
    emittedPulses m PulseTimer.reset (c :: cs) = emittedPulses m ⟨true, c, 1, 0⟩ cs := by
  rw [emittedPulses_cons, pulseTimer_first m c rfl]
  rfl

theorem timerAfter_reset_cons (m : BitVec 16) (c : Bool) (cs : List Bool) :
    timerAfter m PulseTimer.reset (c :: cs) = timerAfter m ⟨true, c, 1, 0⟩ cs := by
  rw [timerAfter_cons, pulseTimer_first m c rfl]

/-- The timer has a pulse of at least one sample, and the unconfirmed run is below MIN_PULSE: what `State.PulseInv` says
of a started timer in an enabled core. -/
def PulseTimer.Timing (m : BitVec 16) (pt : PulseTimer) : Prop :=
  pt.started = true ∧ 1 ≤ pt.count.toNat ∧ pt.glitch.toNat < m.toNat

theorem PulseTimer.timing_first {m : BitVec 16} (hm : 1 ≤ m.toNat) (c : Bool) : Timing m ⟨true, c, 1, 0⟩ :=
  ⟨rfl, le_rfl, hm⟩

theorem PulseTimer.Timing.afterBeat {m : BitVec 16} {pt : PulseTimer} (h : pt.Timing m) (c : Bool) :
    (pulseTimer m c pt).1.Timing m :=
  pulseTimer_range (fun _ => h.2.1) h.2.2 c

/-- Everything a beat can do to a pulse being timed: extend it, lengthen the unconfirmed run, or end it. -/
theorem PulseTimer.Timing.beat_cases {m : BitVec 16} {pt : PulseTimer} (h : pt.Timing m) (c : Bool) :
    pulseTimer m c pt = ({ pt with count := sat16 (pt.count.toNat + pt.glitch.toNat + 1), glitch := 0 }, none) ∨
    (∃ g : BitVec 16, g.toNat = pt.glitch.toNat + 1 ∧ pulseTimer m c pt = ({ pt with glitch := g }, none)) ∨
    (pt.glitch.toNat + 1 = m.toNat ∧
      pulseTimer m c pt = (⟨true, !pt.level, m, 0⟩, some ⟨pt.level, pt.count⟩)) := by
  obtain ⟨hst, -, hrun⟩ := h
  by_cases hc : c = pt.level
  · exact .inl (pulseTimer_same m hst hc)
  · by_cases hg : pt.glitch.toNat + 1 < m.toNat
    · exact .inr (.inl ⟨_, glitch_succ_toNat hg, pulseTimer_glitch hst hc hg⟩)
    · have hfull : pt.glitch.toNat + 1 = m.toNat := Nat.le_antisymm hrun (Nat.le_of_not_lt hg)
      exact .inr (.inr ⟨hfull, pulseTimer_confirms hst hc hfull⟩)

/-! #### Levels and least durations -/

/-- The pulses alternate from `level` on, the first lasts at least `least`, and every later one at least `later`. -/
def Alternating (later : Nat) : Bool → Nat → List Pulse → Prop
  | _, _, [] => True
  | level, least, pulse :: rest =>
    pulse.level = level ∧ least ≤ pulse.duration.toNat ∧ Alternating later (!level) later rest

theorem Alternating.mono {later least least' : Nat} {level : Bool} {ps : List Pulse}
    (h : Alternating later level least ps) (hle : least' ≤ least) : Alternating later level least' ps := by
  cases ps with
  | nil => trivial
  | cons pulse rest =>
    obtain ⟨hlevel, hdur, hrest⟩ := h
    exact ⟨hlevel, hle.trans hdur, hrest⟩

theorem Alternating.isChain {later least : Nat} {level : Bool} {ps : List Pulse}
    (h : Alternating later level least ps) : ps.IsChain fun a b : Pulse => a.level ≠ b.level := by
  induction ps generalizing level least with
  | nil => exact .nil
  | cons pulse rest ih =>
    obtain ⟨hlevel, -, hrest⟩ := h
    refine List.isChain_cons.2 ⟨fun next hnext => ?_, ih hrest⟩
    obtain ⟨rest', rfl⟩ := List.head?_eq_some_iff.1 hnext
    obtain ⟨hnextLevel, -⟩ := hrest
    simp [hlevel, hnextLevel]

theorem Alternating.le_duration {later least : Nat} {level : Bool} {ps : List Pulse}
    (h : Alternating later level least ps) (hle : least ≤ later) : ∀ pulse ∈ ps, least ≤ pulse.duration.toNat := by
  induction ps generalizing level least with
  | nil => nofun
  | cons pulse rest ih =>
    obtain ⟨-, hdur, hrest⟩ := h
    exact List.forall_mem_cons.2 ⟨hdur, fun p hp => hle.trans (ih hrest le_rfl p hp)⟩

theorem Alternating.le_duration_tail {later least : Nat} {level : Bool} {ps : List Pulse}
    (h : Alternating later level least ps) : ∀ pulse ∈ ps.tail, later ≤ pulse.duration.toNat := by
  cases ps with
  | nil => nofun
  | cons pulse rest => exact h.2.2.le_duration le_rfl

/-- A pulse being timed is the first one emitted and only grows until then; a new pulse starts at the other level with
MIN_PULSE samples. -/
theorem PulseTimer.Timing.alternating {m : BitVec 16} {pt : PulseTimer} (h : pt.Timing m) (cs : List Bool) :
    Alternating m.toNat pt.level pt.count.toNat (emittedPulses m pt cs) := by
  induction cs generalizing pt with
  | nil => trivial
  | cons c cs ih =>
    have hnext := ih (h.afterBeat c)
    rw [emittedPulses_cons]
    rcases h.beat_cases c with hbeat | ⟨g, -, hbeat⟩ | ⟨-, hbeat⟩ <;> rw [hbeat] at hnext ⊢
    · refine hnext.mono ?_
      have hcount := pt.count.isLt
      rw [sat16_toNat]
      omega
    · exact hnext
    · exact ⟨rfl, le_rfl, hnext⟩

theorem alternating_emittedPulses_reset {m : BitVec 16} (hm : 1 ≤ m.toNat) (cs : List Bool) :
    ∃ level, Alternating m.toNat level 1 (emittedPulses m PulseTimer.reset cs) := by
  cases cs with
  | nil => exact ⟨false, trivial⟩
  | cons c cs => exact ⟨c, emittedPulses_reset_cons m c cs ▸ (PulseTimer.timing_first hm c).alternating cs⟩

/-- Settles O26: the emitted pulses are `Alternating` with least durations 1 and MIN_PULSE. -/
theorem emittedPulsesAlternate : Obligations.EmittedPulsesAlternate := by
  intro m cs hm
  obtain ⟨level, halt⟩ := alternating_emittedPulses_reset hm cs
  exact ⟨halt.isChain, fun pulse hp => ⟨halt.le_duration hm pulse hp, Nat.le_of_lt_succ pulse.duration.isLt⟩,
    halt.le_duration_tail⟩

/-! #### Every beat is counted once -/

/-- The samples the timer holds: the pulse being timed and the unconfirmed run. -/
def PulseTimer.samples (pt : PulseTimer) : Nat := pt.count.toNat + pt.glitch.toNat

/-- The samples a list of emitted pulses accounts for. -/
def totalDuration (ps : List Pulse) : Nat := (ps.map fun pulse => pulse.duration.toNat).sum

theorem totalDuration_append (ps ps' : List Pulse) :
    totalDuration (ps ++ ps') = totalDuration ps + totalDuration ps' := by
  rw [totalDuration, List.map_append, List.sum_append, totalDuration, totalDuration]

/-- Below saturation a beat adds one sample, to the timer or to what it emits. -/
theorem PulseTimer.Timing.beat_samples {m : BitVec 16} {pt : PulseTimer} (h : pt.Timing m)
    (hsat : pt.samples < 65535) (c : Bool) :
    totalDuration (pulseTimer m c pt).2.toList + (pulseTimer m c pt).1.samples = pt.samples + 1 := by
  rw [samples] at hsat
  rcases h.beat_cases c with hbeat | ⟨g, hg, hbeat⟩ | ⟨hg, hbeat⟩ <;>
    simp only [hbeat, totalDuration, samples, Option.toList, List.map_nil, List.map_cons, List.sum_nil, List.sum_cons,
      sat16_toNat, BitVec.ofNat_eq_ofNat, BitVec.toNat_ofNat] <;>
    omega

theorem PulseTimer.Timing.totalDuration_add_samples {m : BitVec 16} {pt : PulseTimer} (h : pt.Timing m)
    {cs : List Bool} (hsat : pt.samples + cs.length ≤ 65535) :
    totalDuration (emittedPulses m pt cs) + (timerAfter m pt cs).samples = pt.samples + cs.length := by
  induction cs generalizing pt with
  | nil => exact Nat.zero_add _
  | cons c cs ih =>
    rw [List.length_cons] at hsat ⊢
    have hbeat := h.beat_samples (by omega) c
    have hnext := ih (h.afterBeat c) (by omega)
    rw [emittedPulses_cons, timerAfter_cons, totalDuration_append]
    omega

/-- Settles O27: `totalDuration_add_samples` from the first pulse, which holds the first beat's sample. -/
theorem pulseDurationsCountEveryBeat : Obligations.PulseDurationsCountEveryBeat := by
  intro m cs hm hlen
  rw [Nat.add_assoc]
  cases cs with
  | nil => rfl
  | cons c cs =>
    have hfirst : PulseTimer.samples ⟨true, c, 1, 0⟩ = 1 := rfl
    rw [List.length_cons, Nat.add_comm cs.length, ← hfirst] at hlen ⊢
    rw [emittedPulses_reset_cons, timerAfter_reset_cons]
    exact (PulseTimer.timing_first hm c).totalDuration_add_samples hlen

end Sys2Proof.Machine

namespace Sys2Proof.Machine

/-! ### The timing windows (42_bit_recoverer.md R141) -/

/-- The least duration of a window is a ceiling. -/
theorem CfgRegs.winLo_is_ceil (c : CfgRegs) (n : BitVec 16) :
    n.toNat * (256 - c.tol.toNat) ≤ 256 * c.winLo n ∧ 256 * c.winLo n < n.toNat * (256 - c.tol.toNat) + 256 := by
  rw [winLo]
  omega

/-- The greatest duration of a window is a floor. -/
theorem CfgRegs.winHi_is_floor (c : CfgRegs) (n : BitVec 16) :
    256 * c.winHi n ≤ n.toNat * (256 + c.tol.toNat) ∧ n.toNat * (256 + c.tol.toNat) < 256 * c.winHi n + 256 := by
  rw [winHi]
  omega

theorem CfgRegs.inWin_of_tol_zero {c : CfgRegs} (htol : c.tol = 0) (n d : BitVec 16) : c.inWin n d = true ↔ d = n := by
  have hzero : c.tol.toNat = 0 := by rw [htol]; rfl
  rw [inWin, decide_eq_true_iff, hzero, ← BitVec.toNat_inj]
  omega

/-- TOL is below 1, so the window of a positive duration begins above 0. -/
theorem CfgRegs.one_le_winLo (c : CfgRegs) {n : BitVec 16} (hn : 1 ≤ n.toNat) : 1 ≤ c.winLo n := by
  have hpos : 0 < n.toNat * (256 - c.tol.toNat) := Nat.mul_pos hn (Nat.sub_pos_of_lt c.tol.isLt)
  obtain ⟨hceil, -⟩ := c.winLo_is_ceil n
  omega

theorem CfgRegs.inWin_zero (c : CfgRegs) {n : BitVec 16} (hn : 1 ≤ n.toNat) : c.inWin n 0 = false := by
  rw [← Bool.not_eq_true, inWin_iff]
  exact fun h => Nat.not_succ_le_zero 0 ((c.one_le_winLo hn).trans h.1)

/-- Settles O28: membership by deviation is the definition, and `inWin_iff` is membership by the bounds. -/
theorem windowIsItsBounds : Obligations.WindowIsItsBounds := by
  intro c n d
  exact ⟨decide_eq_true_iff, c.inWin_iff n d, c.winLo_is_ceil n, c.winHi_is_floor n,
    fun htol => CfgRegs.inWin_of_tol_zero htol n d, fun hn => ⟨c.one_le_winLo hn, c.inWin_zero hn⟩⟩

/-! ### Classification (42_bit_recoverer.md R142) -/

theorem CfgRegs.not_inWin_both {p : Params} {c : CfgRegs} (hvalid : c.valid p = true) (d : BitVec 16) :
    ¬ (c.inWin c.shortNom d = true ∧ c.inWin c.longNom d = true) := by
  obtain ⟨-, -, ⟨-, hlt⟩, hdisjoint, -⟩ := (c.valid_iff p).1 hvalid
  exact (c.winHi_lt_winLo_iff hlt.le).1 hdisjoint d

theorem classify_eq_shortBit_iff (c : CfgRegs) (d : BitVec 16) :
    classify c d = some c.shortBit ↔ c.inWin c.shortNom d = true := by
  unfold classify
  split_ifs <;> simp [*]

theorem classify_eq_longBit_iff {c : CfgRegs} {d : BitVec 16}
    (hdisjoint : ¬ (c.inWin c.shortNom d = true ∧ c.inWin c.longNom d = true)) :
    classify c d = some (!c.shortBit) ↔ c.inWin c.longNom d = true := by
  unfold classify
  split_ifs with hshort hlong
  · simpa using fun hlong => hdisjoint ⟨hshort, hlong⟩
  · simp [hlong]
  · simp [hlong]

theorem classify_eq_none_iff (c : CfgRegs) (d : BitVec 16) :
    classify c d = none ↔ c.inWin c.shortNom d = false ∧ c.inWin c.longNom d = false := by
  unfold classify
  split_ifs <;> simp [*]

/-- Settles O29: V4 makes the windows disjoint, which is what the second test of `classify` needs. -/
theorem classifyByTheDisjointWindows : Obligations.ClassifyByTheDisjointWindows := by
  intro p c d hvalid
  have hdisjoint := CfgRegs.not_inWin_both hvalid d
  exact ⟨hdisjoint, classify_eq_shortBit_iff c d, classify_eq_longBit_iff hdisjoint, classify_eq_none_iff c d⟩

/-- The unclassified durations are those below, between and above the two windows (42_bit_recoverer.md R153). -/
theorem classify_eq_none_iff_outside {p : Params} {c : CfgRegs} (hvalid : c.valid p = true) (d : BitVec 16) :
    classify c d = none ↔
      d.toNat < c.winLo c.shortNom ∨ (c.winHi c.shortNom < d.toNat ∧ d.toNat < c.winLo c.longNom) ∨
        c.winHi c.longNom < d.toNat := by
  obtain ⟨-, -, -, hdisjoint, -⟩ := (c.valid_iff p).1 hvalid
  have hshort := c.winLo_le_winHi c.shortNom
  have hlong := c.winLo_le_winHi c.longNom
  rw [classify_eq_none_iff, ← Bool.not_eq_true, ← Bool.not_eq_true, CfgRegs.inWin_iff, CfgRegs.inWin_iff]
  omega

/-! ### One pulse against the preamble (42_bit_recoverer.md R143 to R145) -/

theorem nextMatch_of_match {c : CfgRegs} {k : Nat} {d : BitVec 16} (hk : preMatch c k d = true) :
    nextMatch c k d = k + 1 := by
  simp [nextMatch, hk]

theorem nextMatch_of_first {c : CfgRegs} {k : Nat} {d : BitVec 16} (hpos : 0 < k) (hk : preMatch c k d = false)
    (hfirst : preMatch c 0 d = true) : nextMatch c k d = 1 := by
  simp [nextMatch, hk, hfirst, hpos]

theorem nextMatch_of_mismatch {c : CfgRegs} {k : Nat} {d : BitVec 16} (hk : preMatch c k d = false)
    (hfirst : preMatch c 0 d = false) : nextMatch c k d = 0 := by
  simp [nextMatch, hk, hfirst]

section MatchingThePreamble
variable {s : State} {pulse : Pulse} (hst : s.br.st = .idle ∨ s.br.st = .sync)
include hst

theorem bitRecoverer_matching : bitRecoverer pulse s = { s with br := matchPreamble s.cfg pulse.duration s.br } :=
  hst.elim (bitRecoverer_idle · pulse) (bitRecoverer_sync · pulse)

/-- The pulse that matches the last element completes the preamble. -/
theorem bitRecoverer_of_lastElement (hk : preMatch s.cfg s.br.k.toNat pulse.duration = true)
    (hlen : s.br.k.toNat + 1 = s.cfg.preLen.toNat) :
    bitRecoverer pulse s = { s with br := ⟨.receiving, 0, 0, 0⟩ } := by
  rw [bitRecoverer_matching hst, matchPreamble, nextMatch_of_match hk, if_pos hlen]

/-- A pulse that matches an earlier element moves the match on. -/
theorem bitRecoverer_of_earlierElement (hk : preMatch s.cfg s.br.k.toNat pulse.duration = true)
    (hlen : s.br.k.toNat + 1 < s.cfg.preLen.toNat) :
    bitRecoverer pulse s = { s with br := { s.br with st := .sync, k := BitVec.ofNat 6 (s.br.k.toNat + 1) } } := by
  rw [bitRecoverer_matching hst, matchPreamble, nextMatch_of_match hk, if_neg hlen.ne, if_neg (Nat.succ_ne_zero _)]

/-- A pulse that breaks a match can itself be a first element. -/
theorem bitRecoverer_of_firstElement (hpos : 0 < s.br.k.toNat) (hlen : 1 < s.cfg.preLen.toNat)
    (hk : preMatch s.cfg s.br.k.toNat pulse.duration = false) (hfirst : preMatch s.cfg 0 pulse.duration = true) :
    bitRecoverer pulse s = { s with br := { s.br with st := .sync, k := 1 } } := by
  rw [bitRecoverer_matching hst, matchPreamble, nextMatch_of_first hpos hk hfirst, if_neg hlen.ne,
    if_neg Nat.one_ne_zero]
  rfl

/-- A pulse that matches neither the next element nor the first one leaves no match. -/
theorem bitRecoverer_of_mismatch (hlen : 0 < s.cfg.preLen.toNat)
    (hk : preMatch s.cfg s.br.k.toNat pulse.duration = false) (hfirst : preMatch s.cfg 0 pulse.duration = false) :
    bitRecoverer pulse s = { s with br := { s.br with st := .idle, k := 0 } } := by
  rw [bitRecoverer_matching hst, matchPreamble, nextMatch_of_mismatch hk hfirst, if_neg hlen.ne, if_pos rfl]

end MatchingThePreamble

/-! ### What a running state says of the recoverer (10_state.md R43, R45) -/

section RunningRecoverer
variable {s : State} (hs : s.Running)
include hs

theorem State.Running.cfg_valid : s.cfg.valid s.params = true := by
  obtain ⟨⟨-, hvalid, -⟩, he⟩ := hs
  exact hvalid he

theorem State.Running.recovererInv : s.RecovererInv := by
  obtain ⟨⟨-, -, -, -, hrec⟩, -⟩ := hs
  exact hrec

theorem State.Running.preLen_pos : 0 < s.cfg.preLen.toNat := by
  obtain ⟨-, -, -, -, ⟨hpos, -⟩, -⟩ := (s.cfg.valid_iff _).1 hs.cfg_valid
  exact hpos

theorem State.Running.k_eq_zero (hst : s.br.st ≠ .sync) : s.br.k = 0 := by
  obtain ⟨-, -, hk, -⟩ := hs.recovererInv
  exact hk hst

theorem State.Running.k_toNat_of_idle (hst : s.br.st = .idle) : s.br.k.toNat = 0 := by
  rw [hs.k_eq_zero (by simp [hst])]
  rfl

theorem State.Running.k_in_sync (hst : s.br.st = .sync) : 0 < s.br.k.toNat ∧ s.br.k.toNat < s.cfg.preLen.toNat := by
  obtain ⟨-, hk, -, hlen, -⟩ := hs.recovererInv
  exact ⟨(hk hst).1, hlen hs.2 hst⟩

theorem State.Running.nbits_lt_frameLen : s.br.nbits.toNat < s.cfg.frameLen := by
  obtain ⟨-, -, -, -, -, -, hframe, -⟩ := hs.recovererInv
  exact hframe hs.2

/-- There is always room for one more bit in the buffer. -/
theorem State.Running.buf_lt : s.br.buf.toNat < 2 ^ 47 := by
  obtain ⟨-, -, -, -, hnbits, -, -, hbuf⟩ := hs.recovererInv
  exact hbuf.trans_le (Nat.pow_le_pow_right (by decide) hnbits)

end RunningRecoverer

/-- Below its top bit the buffer loses nothing when a bit is shifted in. -/
theorem appendBit_toNat {buf : BitVec 48} (hbuf : buf.toNat < 2 ^ 47) (b : Bool) :
    (appendBit buf b).toNat = 2 * buf.toNat + b.toNat := by
  have happend := appendBit_ofNat buf.toNat b
  rw [BitVec.ofNat_toNat, BitVec.setWidth_eq] at happend
  rw [happend, BitVec.toNat_ofNat]
  have hb := b.toNat_le
  omega

/-- The match index does not wrap below PRE_LEN. -/
theorem matchIndex_succ_toNat {c : CfgRegs} {k : BitVec 6} (h : k.toNat + 1 < c.preLen.toNat) :
    (BitVec.ofNat 6 (k.toNat + 1)).toNat = k.toNat + 1 :=
  (BitVec.toNat_ofNat _ _).trans (Nat.mod_eq_of_lt (h.trans c.preLen.isLt))

theorem bitRecoverer_of_unclassified {s : State} {pulse : Pulse} (hst : s.br.st = .receiving)
    (hnone : classify s.cfg pulse.duration = none) : bitRecoverer pulse s = framingError s := by
  rw [bitRecoverer_receiving hst, receivePulse, hnone]

/-! ### The transition table (42_bit_recoverer.md R157) -/

/-- Settles O30: rows 1 to 7 are the four lemmas on a pulse against the preamble, with the match index 0 in IDLE and
positive in SYNC; rows 8 to 10 are the framing error, a bit that does not complete the frame, and one that does. -/
theorem recovererTransitionTable : Obligations.RecovererTransitionTable := by
  intro s pulse hs
  have hzero := hs.k_toNat_of_idle
  refine ⟨?idleLast, ?idleEarlier, ?idleMismatch, ?syncLast, ?syncEarlier, ?syncFirst, ?syncMismatch, ?framingError,
    ?bit, ?lastBit⟩
  case idleLast =>
    intro hst hk hlen
    exact bitRecoverer_of_lastElement (.inl hst) (by rwa [hzero hst]) (by rw [hzero hst, hlen])
  case idleEarlier =>
    intro hst hk hlen
    rw [bitRecoverer_of_earlierElement (.inl hst) (by rwa [hzero hst]) (by rwa [hzero hst]), hzero hst]
    rfl
  case idleMismatch =>
    intro hst hk
    rw [bitRecoverer_of_mismatch (.inl hst) hs.preLen_pos (by rwa [hzero hst]) hk, ← hst]
  case syncLast =>
    intro hst hk hlen
    exact bitRecoverer_of_lastElement (.inr hst) hk hlen
  case syncEarlier =>
    intro hst hk hlen
    refine ⟨_, matchIndex_succ_toNat hlen, ?_⟩
    rw [bitRecoverer_of_earlierElement (.inr hst) hk hlen, ← hst]
  case syncFirst =>
    intro hst hk hfirst
    obtain ⟨hpos, hlt⟩ := hs.k_in_sync hst
    rw [bitRecoverer_of_firstElement (.inr hst) hpos (Nat.lt_of_le_of_lt hpos hlt) hk hfirst, ← hst]
  case syncMismatch =>
    intro hst hk hfirst
    exact bitRecoverer_of_mismatch (.inr hst) hs.preLen_pos hk hfirst
  case framingError =>
    intro hst hnone
    exact bitRecoverer_of_unclassified hst hnone
  case bit =>
    intro b hst hb hlen
    exact ⟨_, _, withBit_nbits_toNat hs.nbits_lt_frameLen b, appendBit_toNat hs.buf_lt b,
      bitRecoverer_of_partial hst hb hlen.ne⟩
  case lastBit =>
    intro b hst hb hlen
    exact ⟨_, appendBit_toNat hs.buf_lt b, bitRecoverer_of_complete hst hb hlen⟩

/-- Settles O31: `framingError` keeps the match index, which is 0 in RECEIVING. -/
theorem framingErrorDiscardsThePartialFrame : Obligations.FramingErrorDiscardsThePartialFrame := by
  intro s pulse hs hst
  refine ⟨classify_eq_none_iff_outside hs.cfg_valid _, fun hnone => ?_⟩
  have hk : s.br.k = 0 := hs.k_eq_zero (by simp [hst])
  simp only [bitRecoverer_of_unclassified hst hnone, framingError, Counters.countFrmErr, hk]

/-! ### FRAME_READY (42_bit_recoverer.md R150) -/

theorem matchPreamble_ne_frameReady (c : CfgRegs) (d : BitVec 16) (br : BitRecoverer) :
    (matchPreamble c d br).st ≠ .frameReady := by
  unfold matchPreamble
  split_ifs <;> nofun

theorem bitRecoverer_ne_frameReady {s : State} (hs : s.br.st ≠ .frameReady) (pulse : Pulse) :
    (bitRecoverer pulse s).br.st ≠ .frameReady := by
  rcases bitRecoverer_cases pulse s with ⟨-, h⟩ | ⟨-, -, h⟩ | ⟨b, -, -, -, h⟩ | ⟨b, -, -, -, h⟩ | ⟨hready, -⟩
  · rw [h]
    exact matchPreamble_ne_frameReady _ _ _
  · rw [h]
    nofun
  · rw [h]
    exact hs
  · rw [h]
    nofun
  · exact absurd hready hs

@[simp] theorem softResetIf_br (b : Bool) (s : State) :
    (softResetIf b s).br = if b then BitRecoverer.reset else s.br := by
  cases b <;> rfl

@[simp] theorem clearCountersIf_br (b : Bool) (s : State) : (clearCountersIf b s).br = s.br := by cases b <;> rfl

theorem setEnable_br_cases (b : Bool) (s : State) :
    (setEnable b s).br = s.br ∨ (setEnable b s).br = BitRecoverer.reset := by
  rcases setEnable_cases b s with ⟨-, h⟩ | ⟨-, -, h⟩ | ⟨-, -, -, h⟩ | ⟨-, -, -, h⟩ <;> rw [h]
  case inr.inr.inl => exact .inr rfl
  all_goals exact .inl rfl

/-- A write of CTRL leaves the recoverer as it is or resets it (44_host_ops.md R201). -/
theorem afterWrCtrl_br_cases (v : Word) (s : State) :
    (afterWrCtrl v s).br = s.br ∨ (afterWrCtrl v s).br = BitRecoverer.reset := by
  rw [afterWrCtrl]
  rcases setEnable_br_cases (v.getLsbD 0) _ with h | h
  · rw [h, setIrqEn_br, clearCountersIf_br, softResetIf_br]
    cases v.getLsbD 1
    · exact .inl rfl
    · exact .inr rfl
  · exact .inr h

theorem exec_ne_frameReady {i : Instr} {s t : State} (hs : s.br.st ≠ .frameReady) (hexec : exec i s = .next t) :
    t.br.st ≠ .frameReady := by
  cases execEffect_of_exec hexec with
  | beat a b =>
    rcases acceptBeat_cases a b s with ⟨-, h⟩ | ⟨pulse, -, h⟩ <;> rw [h]
    · exact hs
    · exact bitRecoverer_ne_frameReady (s := timeBeat a b s) hs pulse
  | wrCtrl v =>
    rcases afterWrCtrl_br_cases v s with h | h <;> rw [h]
    · exact hs
    · nofun
  | cfgWrite i set => rwa [writeCfg_br]
  | wrStatus | rdOutFrame | read | nothing => exact hs

theorem step_ne_frameReady {s t : State} (hs : s.br.st ≠ .frameReady) (hstep : step s = .next t) :
    t.br.st ≠ .frameReady := by
  cases stepEffect_of_step hstep with
  | op w rest i t hd hexec => exact exec_ne_frameReady (s := withInputs rest s) hs hexec
  | reset rest => nofun
  | idle | reservedRead => exact hs

/-- BR_STATE is the low field of STATUS (10_state.md R25). -/
theorem status_brState (s : State) : s.status.extractLsb' 0 2 = s.br.st.code := BitVec.extractLsb'_append_eq_right

theorem BrState.code_eq_three_iff (st : BrState) : st.code = 3 ↔ st = .frameReady := by
  cases st <;> decide

/-- Settles O32: `bitRecoverer_of_complete` for the pulse, and `step_ne_frameReady` for the steps. -/
theorem frameReadyIsNeverSeen : Obligations.FrameReadyIsNeverSeen := by
  refine ⟨fun s pulse b hst hb hlen => ?_, fun s t hs hstep => ?_⟩
  · rw [bitRecoverer_of_complete hst hb hlen]
    rfl
  · have ht := step_ne_frameReady hs hstep
    exact ⟨ht, by rwa [status_brState, ne_eq, BrState.code_eq_three_iff]⟩

/-! ### The recoverer's inputs (42_bit_recoverer.md R146, R156) -/

/-- The recoverer does not look at a pulse's level. -/
theorem bitRecoverer_pulse_congr {pulse pulse' : Pulse} (h : pulse'.duration = pulse.duration) (s : State) :
    bitRecoverer pulse' s = bitRecoverer pulse s := by
  rw [bitRecoverer, h, bitRecoverer]

/-- Settles O33: `bitRecoverer_pulse_congr` for the level, `bitRecoverer_br_congr` for the rest of the state. -/
theorem recovererReadsOnlyDurationAndConfiguration : Obligations.RecovererReadsOnlyDurationAndConfiguration := by
  intro s s' pulse pulse' hbr hcfg hduration
  rw [bitRecoverer_pulse_congr hduration, bitRecoverer_br_congr pulse hcfg hbr]

/-! ### Sequences of pulses (42_bit_recoverer.md R144, R157) -/

/-- Pulses that match the elements still missing, in order, complete the preamble from any match index. -/
theorem feedPulses_of_preamble {s : State} {ps : List Pulse} (hst : s.br.st = .idle ∨ s.br.st = .sync)
    (hlen : s.br.k.toNat + ps.length = s.cfg.preLen.toNat) (hlt : s.br.k.toNat < s.cfg.preLen.toNat)
    (hps : ∀ (j : Nat) (h : j < ps.length), preMatch s.cfg (s.br.k.toNat + j) ps[j].duration = true) :
    feedPulses ps s = { s with br := ⟨.receiving, 0, 0, 0⟩ } := by
  induction ps generalizing s with
  | nil => exact absurd hlen hlt.ne
  | cons pulse ps ih =>
    have hk : preMatch s.cfg s.br.k.toNat pulse.duration = true := hps 0 (Nat.succ_pos _)
    rw [List.length_cons] at hlen
    rw [feedPulses]
    by_cases hlast : s.br.k.toNat + 1 = s.cfg.preLen.toNat
    · obtain rfl : ps = [] := List.length_eq_zero_iff.1 (by omega)
      exact bitRecoverer_of_lastElement hst hk hlast
    · have hmore : s.br.k.toNat + 1 < s.cfg.preLen.toNat := Nat.lt_of_le_of_ne hlt hlast
      have hnext := matchIndex_succ_toNat hmore
      rw [bitRecoverer_of_earlierElement hst hk hmore]
      refine ih (.inr rfl) ?length ?below fun j hj => ?element
      case length => rw [hnext, Nat.add_right_comm]; exact hlen
      case below => rwa [hnext]
      case element =>
        rw [hnext, Nat.add_right_comm]
        exact hps (j + 1) (Nat.succ_lt_succ hj)

/-- Settles O34: `feedPulses_of_preamble` from match index 0. -/
theorem completePreambleIsRecognised : Obligations.CompletePreambleIsRecognised := by
  intro s ps hs hst hlen hps
  have hzero := hs.k_toNat_of_idle hst
  refine feedPulses_of_preamble (.inl hst) (by rwa [hzero, Nat.zero_add]) (by rw [hzero]; exact hs.preLen_pos) ?_
  simpa only [hzero, Nat.zero_add] using hps

/-- A pulse outside the window of preamble element 0 leaves an idle recoverer idle. -/
theorem bitRecoverer_of_noise {s : State} (hs : s.Running) (hst : s.br.st = .idle) {pulse : Pulse}
    (hnoise : preMatch s.cfg 0 pulse.duration = false) : bitRecoverer pulse s = s := by
  have hk : s.br.k = 0 := hs.k_eq_zero (by simp [hst])
  rw [bitRecoverer_of_mismatch (.inl hst) hs.preLen_pos (by rwa [hk]) hnoise, ← hst, ← hk]

/-- Settles O35: each pulse of the noise changes nothing, so the next one meets the same state. -/
theorem noiseLeavesTheRecovererIdle : Obligations.NoiseLeavesTheRecovererIdle := by
  intro s ps hs hst hnoise
  induction ps with
  | nil => rfl
  | cons pulse ps ih =>
    obtain ⟨hpulse, hrest⟩ := List.forall_mem_cons.1 hnoise
    rw [feedPulses, bitRecoverer_of_noise hs hst hpulse, ih hrest]

end Sys2Proof.Machine

namespace Sys2Proof.Machine

/-! ### The verdict and the frame's fields (43_frame_validator.md R170, R174, R175) -/

theorem validate_of_accepted {s : State} {buf : BitVec 48} (h : crc s.cfg (frameData s.cfg buf) = frameCk s.cfg buf) :
    validate buf s = acceptFrame (field (frameData s.cfg buf) 8 24) (field (frameData s.cfg buf) 0 8)
      (frameCk s.cfg buf) s := if_pos h

theorem validate_of_rejected {s : State} {buf : BitVec 48} (h : crc s.cfg (frameData s.cfg buf) ≠ frameCk s.cfg buf) :
    validate buf s = rejectFrame s := if_neg h

/-- A field of the data bits is a field of the buffer, CK_W bits higher (20_memory.md R63). -/
theorem field_frameData (c : CfgRegs) (buf : BitVec 48) {lo width : Nat} (hlen : lo + width ≤ 32) :
    field (frameData c buf) lo width = (buf >>> (c.ckW.toNat + lo)).setWidth width := by
  apply BitVec.eq_of_getLsbD_eq
  intro i hi
  have hword : lo + i < 32 := by omega
  simp [field, frameData, hi, hword, Nat.add_assoc]

/-- The received checksum is the buffer modulo `2 ^ CK_W`. -/
theorem frameCk_eq_mod {c : CfgRegs} (hw : c.ckW.toNat ≤ 16) (buf : BitVec 48) :
    frameCk c buf = BitVec.ofNat 16 (buf.toNat % 2 ^ c.ckW.toNat) := by
  have htoNat : (frameCk c buf).toNat = buf.toNat % 2 ^ c.ckW.toNat := by
    rw [frameCk, and_ckMask_toNat, BitVec.toNat_setWidth, Nat.mod_mod_of_dvd _ (Nat.pow_dvd_pow 2 hw)]
  rw [← htoNat, BitVec.ofNat_toNat, BitVec.setWidth_eq]

/-- Settles O36: the two verdicts of `validate`, with the frame's fields read off the buffer. -/
theorem validateAcceptsOrRejects : Obligations.ValidateAcceptsOrRejects := by
  intro s buf hv6
  have hw : s.cfg.ckW.toNat ≤ 16 := by
    simp only [CfgRegs.v6, Bool.and_eq_true, decide_eq_true_eq] at hv6
    exact hv6.2
  refine ⟨fun haccepted => ?_, fun hrejected => validate_of_rejected hrejected⟩
  rw [validate_of_accepted haccepted, field_frameData _ _ (by decide), field_frameData _ _ (by decide),
    frameCk_eq_mod hw, acceptFrame, Counters.countOk_eq, Nat.add_zero]
  rfl

/-! ### The checksum register, bit by bit (43_frame_validator.md R172) -/

/-- CKMASK has exactly the bits below CK_W (10_state.md R47). -/
theorem getLsbD_ckMask (c : CfgRegs) (j : Nat) :
    c.ckMask.getLsbD j = (decide (j < 16) && decide (j < c.ckW.toNat)) := by
  rw [CfgRegs.ckMask, BitVec.getLsbD_ofNat, Nat.testBit_two_pow_sub_one]

/-- One bit of the checksum register after a step: the bit below it, and the polynomial's bit where the feedback is 1. -/
theorem getLsbD_crcStep (c : CfgRegs) (reg : BitVec 16) (b : Bool) {j : Nat} (hj : j < 16) :
    (crcStep c reg b).getLsbD j = (decide (j < c.ckW.toNat) &&
      ((!decide (j < 1) && reg.getLsbD (j - 1)) ^^ (c.ckPoly.getLsbD j && (reg.getLsbD (c.ckW.toNat - 1) ^^ b)))) := by
  have hmask : c.ckMask.getLsbD j = decide (j < c.ckW.toNat) := by rw [getLsbD_ckMask, decide_eq_true hj, Bool.true_and]
  have hshift : ((reg <<< 1) &&& c.ckMask).getLsbD j =
      (decide (j < c.ckW.toNat) && (!decide (j < 1) && reg.getLsbD (j - 1))) := by
    rw [BitVec.getLsbD_and, BitVec.getLsbD_shiftLeft, hmask, decide_eq_true hj, Bool.true_and, Bool.and_comm]
  unfold crcStep
  split
  case isTrue hfb =>
    rw [BitVec.getLsbD_xor, hshift, BitVec.getLsbD_and, hmask, hfb, Bool.and_true, Bool.and_xor_distrib_left,
      Bool.and_comm (c.ckPoly.getLsbD j)]
  case isFalse hfb => rw [hshift, Bool.eq_false_iff.2 hfb, Bool.and_false, Bool.xor_false]

/-! ### The checksum is affine over GF(2) (43_frame_validator.md R172, R176) -/

theorem crcStep_xor (c : CfgRegs) (reg reg' : BitVec 16) (b b' : Bool) :
    crcStep c (reg ^^^ reg') (b ^^ b') = crcStep c reg b ^^^ crcStep c reg' b' := by
  apply BitVec.eq_of_getLsbD_eq
  intro j hj
  simp only [BitVec.getLsbD_xor, getLsbD_crcStep c _ _ hj, Bool.and_xor_distrib_left, Bool.xor_assoc,
    Bool.xor_left_comm, Bool.xor_comm]

theorem crcBits_xor (c : CfgRegs) {len : Nat} (a b : BitVec len) (n : Nat) (reg reg' : BitVec 16) :
    crcBits c (a ^^^ b) n (reg ^^^ reg') = crcBits c a n reg ^^^ crcBits c b n reg' := by
  induction n generalizing reg reg' with
  | zero => rfl
  | succ n ih => rw [crcBits, BitVec.getLsbD_xor, crcStep_xor, ih, crcBits, crcBits]

/-- Flipping the bits of `b` changes the checksum by what `b` leaves in an empty register, whatever CK_INIT and CK_XOROUT
are. -/
theorem crc_xor (c : CfgRegs) {len : Nat} (a b : BitVec len) : crc c (a ^^^ b) = crc c a ^^^ crcBits c b len 0 := by
  have hlinear := crcBits_xor c a b len (c.ckInit &&& c.ckMask) 0
  rw [BitVec.ofNat_eq_ofNat, BitVec.xor_zero] at hlinear
  rw [crc, hlinear, crc]
  ac_rfl

/-- Settles O40: `crc_xor` for `b`, once over `a` and once over 0, and `crc_lt`. -/
theorem checksumIsAffine : Obligations.ChecksumIsAffine := by
  intro c a b _
  have hb : crc c b = crc c (0#32) ^^^ crcBits c b 32 0 := by rw [← crc_xor, BitVec.zero_xor]
  refine ⟨?_, crc_lt c a⟩
  calc
    crc c (a ^^^ b) = crc c a ^^^ crcBits c b 32 0 := crc_xor c a b
    _ = crc c a ^^^ crc c b ^^^ crc c (0#32) := by
      rw [hb, BitVec.xor_assoc, BitVec.xor_comm (crc c 0#32), BitVec.xor_assoc, BitVec.xor_self, BitVec.xor_zero]

/-! ### Zeros leave an empty register empty (43_frame_validator.md R178) -/

theorem crcStep_zero_false (c : CfgRegs) : crcStep c 0 false = 0 := by
  simp [crcStep]

/-- Bits that are all 0 leave an empty register empty. -/
theorem crcBits_zero (c : CfgRegs) {len : Nat} (data : BitVec len) {n : Nat} (hdata : ∀ j < n, data.getLsbD j = false) :
    crcBits c data n 0 = 0 := by
  induction n with
  | zero => rfl
  | succ n ih =>
    rw [crcBits, hdata n n.lt_succ_self, crcStep_zero_false]
    exact ih fun j hj => hdata j (Nat.lt_succ_of_lt hj)

/-- Settles O42: an empty register stays empty over 32 zeros, and the buffer's data and checksum are 0. -/
theorem allZeroFrameIsAccepted : Obligations.AllZeroFrameIsAccepted := by
  intro s hinit hxorout
  have hcrc : crc s.cfg (0#32) = 0 := by
    rw [crc, hinit, hxorout, BitVec.ofNat_eq_ofNat, BitVec.zero_and, BitVec.xor_zero]
    exact crcBits_zero s.cfg _ fun j _ => BitVec.getLsbD_zero
  have hdata : frameData s.cfg 0 = 0#32 := by simp [frameData]
  have hck : frameCk s.cfg 0 = 0#16 := by simp [frameCk]
  refine ⟨hcrc, ?_⟩
  rw [validate_of_accepted (by rw [hdata, hck]; exact hcrc), hdata, hck, acceptFrame, Counters.countOk_eq]
  rfl

/-! ### Width 1 and polynomial 1: parity (43_frame_validator.md R173) -/

theorem toNat_mod_two_eq_bit {len : Nat} (x : BitVec len) : x.toNat % 2 = (x.getLsbD 0).toNat := by
  rw [BitVec.getLsbD, Nat.toNat_testBit, pow_zero, Nat.div_one]

theorem crcStep_toNat_mod_two {c : CfgRegs} (hw : c.ckW = 1) (hpoly : c.ckPoly = 1) (reg : BitVec 16) (b : Bool) :
    (crcStep c reg b).toNat % 2 = (reg.toNat + b.toNat) % 2 := by
  have hbit : (crcStep c reg b).getLsbD 0 = (reg.getLsbD 0 ^^ b) := by
    rw [getLsbD_crcStep c reg b (by decide), hw, hpoly]
    simp
  rw [toNat_mod_two_eq_bit, hbit, Nat.add_mod, toNat_mod_two_eq_bit]
  cases reg.getLsbD 0 <;> cases b <;> rfl

theorem crcBits_toNat_mod_two {c : CfgRegs} (hw : c.ckW = 1) (hpoly : c.ckPoly = 1) {len : Nat} (data : BitVec len)
    (n : Nat) (reg : BitVec 16) : (crcBits c data n reg).toNat % 2 = (reg.toNat + countOnes data n) % 2 := by
  induction n generalizing reg with
  | zero => rfl
  | succ n ih =>
    rw [crcBits, ih, Nat.add_mod, crcStep_toNat_mod_two hw hpoly, ← Nat.add_mod, Nat.add_assoc, countOnes]
    cases data.getLsbD n <;> rfl

/-- The checksum bit is the parity of CK_INIT, the data and CK_XOROUT. -/
theorem crc_toNat_of_parity {c : CfgRegs} (hw : c.ckW = 1) (hpoly : c.ckPoly = 1) {len : Nat} (data : BitVec len) :
    (crc c data).toNat = (c.ckInit.toNat + countOnes data len + c.ckXorout.toNat) % 2 := by
  have hlt : (crc c data).toNat < 2 := by simpa [hw] using crc_lt c data
  have hmask (x : BitVec 16) : (x &&& c.ckMask).toNat = x.toNat % 2 := by rw [and_ckMask_toNat, hw]; rfl
  calc
    (crc c data).toNat = (crc c data).toNat % 2 := (Nat.mod_eq_of_lt hlt).symm
    _ = ((crcBits c data len (c.ckInit &&& c.ckMask)).toNat + c.ckXorout.toNat % 2) % 2 := by
      rw [crc, BitVec.toNat_xor, Nat.xor_mod_two_eq, hmask]
    _ = (c.ckInit.toNat + countOnes data len + c.ckXorout.toNat) % 2 := by
      rw [Nat.add_mod_mod, Nat.add_mod, crcBits_toNat_mod_two hw hpoly, hmask, ← Nat.add_mod, Nat.add_assoc,
        Nat.mod_add_mod, ← Nat.add_assoc]

/-- Settles O41: `crc_toNat_of_parity`, with CK_INIT and CK_XOROUT as given. -/
theorem widthOneChecksumIsParity : Obligations.WidthOneChecksumIsParity := by
  intro c data hw hpoly
  have hparity := crc_toNat_of_parity hw hpoly data
  have hzero : (0 : BitVec 16).toNat = 0 := rfl
  have hone : (1 : BitVec 16).toNat = 1 := rfl
  refine ⟨hparity, fun hinit hxorout => ?even, fun hinit hxorout => ?odd⟩
  case even =>
    rw [hinit, hxorout, hzero] at hparity
    omega
  case odd =>
    rw [hinit, hxorout, hzero, hone] at hparity
    omega

/-! ### Single-bit errors: the data bits (43_frame_validator.md R176)

R176 says that `x^(i+W)` is not 0 modulo `G = x^W + CK_POLY`. Step by step: with `x^m` the greatest power of `x` dividing
`CK_POLY`, the flipped bit leaves a nonzero multiple of `x^m` in the register, and the zeros after it keep it one. -/

/-- The register is nonzero and a multiple of `x^m`: one of its CK_W bits is 1, and none below bit `m` is. -/
def NonzeroMultiple (c : CfgRegs) (m : Nat) (reg : BitVec 16) : Prop :=
  (∀ j < m, reg.getLsbD j = false) ∧ ∃ j < c.ckW.toNat, reg.getLsbD j = true

theorem NonzeroMultiple.ne_zero {c : CfgRegs} {m : Nat} {reg : BitVec 16} (h : NonzeroMultiple c m reg) : reg ≠ 0 := by
  rintro rfl
  obtain ⟨-, j, -, hj⟩ := h
  simp at hj

/-- Bit `m` is the lowest 1 of CK_POLY, and it is within the width. -/
def LowestPolyBit (c : CfgRegs) (m : Nat) : Prop :=
  m < c.ckW.toNat ∧ c.ckPoly.getLsbD m = true ∧ ∀ j < m, c.ckPoly.getLsbD j = false

theorem exists_lowestPolyBit {c : CfgRegs} (hpoly : c.ckPoly.toNat % 2 ^ c.ckW.toNat ≠ 0) : ∃ m, LowestPolyBit c m := by
  have hbit : ∃ j, j < c.ckW.toNat ∧ c.ckPoly.getLsbD j = true := by
    obtain ⟨j, hj⟩ := Nat.exists_testBit_of_ne_zero hpoly
    rw [Nat.testBit_mod_two_pow, Bool.and_eq_true, decide_eq_true_iff] at hj
    exact ⟨j, hj⟩
  obtain ⟨hlt, hm⟩ := Nat.find_spec hbit
  refine ⟨Nat.find hbit, hlt, hm, fun j hj => ?_⟩
  simpa [hj.trans hlt] using Nat.find_min hbit hj

section LowestPolyBit
variable {c : CfgRegs} {m : Nat} (hw : c.ckW.toNat ≤ 16) (hm : LowestPolyBit c m)
include hw hm

/-- The bit that enters an empty register leaves the polynomial in it. -/
theorem nonzeroMultiple_crcStep_zero_true : NonzeroMultiple c m (crcStep c 0 true) := by
  obtain ⟨hlt, hone, hlow⟩ := hm
  refine ⟨fun j hj => ?_, m, hlt, ?_⟩
  · rw [getLsbD_crcStep c _ _ (by omega), hlow j hj]
    simp
  · rw [getLsbD_crcStep c _ _ (by omega), hone]
    simp [hlt]

/-- A zero bit multiplies by `x` modulo `G`. Without feedback nothing is lost at the top; with feedback the polynomial's
lowest bit comes in at `m`, where the shifted register has a 0. -/
theorem nonzeroMultiple_crcStep_false {reg : BitVec 16} (hreg : NonzeroMultiple c m reg) :
    NonzeroMultiple c m (crcStep c reg false) := by
  obtain ⟨hlt, hone, hlow⟩ := hm
  obtain ⟨hzero, k, hk, hset⟩ := hreg
  have hshifted {j : Nat} (hj : j ≤ m) : (!decide (j < 1) && reg.getLsbD (j - 1)) = false := by
    by_cases h : j < 1
    · simp [h]
    · rw [hzero (j - 1) (by omega), Bool.and_false]
  refine ⟨fun j hj => ?_, ?_⟩
  · rw [getLsbD_crcStep c _ _ (by omega), hlow j hj, hshifted hj.le]
    simp
  · cases hfb : reg.getLsbD (c.ckW.toNat - 1) with
    | true =>
      refine ⟨m, hlt, ?_⟩
      rw [getLsbD_crcStep c _ _ (by omega), hshifted le_rfl, hone, hfb]
      simp [hlt]
    | false =>
      have hne : k ≠ c.ckW.toNat - 1 := fun h => by simp [← h, hset] at hfb
      have hk' : k + 1 < c.ckW.toNat := by omega
      refine ⟨k + 1, hk', ?_⟩
      rw [getLsbD_crcStep c _ _ (by omega), hfb]
      simp [hk', hset]

theorem nonzeroMultiple_crcBits {len : Nat} (data : BitVec len) {n : Nat} (hdata : ∀ j < n, data.getLsbD j = false)
    {reg : BitVec 16} (hreg : NonzeroMultiple c m reg) : NonzeroMultiple c m (crcBits c data n reg) := by
  induction n generalizing reg with
  | zero => exact hreg
  | succ n ih =>
    rw [crcBits, hdata n n.lt_succ_self]
    exact ih (fun j hj => hdata j (Nat.lt_succ_of_lt hj)) (nonzeroMultiple_crcStep_false hw hm hreg)

/-- One 1 among zeros: the register is empty until it enters, and never again. -/
theorem nonzeroMultiple_crcBits_twoPow {len i n : Nat} (hi : i < n) (hn : n ≤ len) :
    NonzeroMultiple c m (crcBits c (BitVec.twoPow len i) n 0) := by
  have hbit (j : Nat) : (BitVec.twoPow len i).getLsbD j = decide (i = j) := by
    rw [BitVec.getLsbD_twoPow, decide_eq_true (hi.trans_le hn), Bool.true_and]
  induction n, hi using Nat.le_induction with
  | base =>
    rw [crcBits, hbit, decide_eq_true rfl]
    exact nonzeroMultiple_crcBits hw hm _ (fun j hj => by rw [hbit, decide_eq_false hj.ne'])
      (nonzeroMultiple_crcStep_zero_true hw hm)
  | succ n hi ih =>
    rw [crcBits, hbit, decide_eq_false (Nat.ne_of_lt hi), crcStep_zero_false]
    exact ih (Nat.le_of_succ_le hn)

end LowestPolyBit

/-- By `crc_xor` the two checksums differ by what the flipped bit alone leaves in an empty register. -/
theorem crc_xor_twoPow_ne {p : Params} {c : CfgRegs} (hvalid : c.valid p = true) {len : Nat} (data : BitVec len) {i : Nat}
    (hi : i < len) : crc c (data ^^^ BitVec.twoPow len i) ≠ crc c data := by
  obtain ⟨-, -, -, -, -, ⟨-, hw⟩, hpoly⟩ := (c.valid_iff p).1 hvalid
  obtain ⟨m, hm⟩ := exists_lowestPolyBit hpoly
  have hne := (nonzeroMultiple_crcBits_twoPow hw hm hi le_rfl).ne_zero
  rw [crc_xor]
  exact fun h => hne (BitVec.xor_right_inj (crc c data) |>.1 (h.trans BitVec.xor_zero.symm))

/-! ### Single-bit errors: the bits of a frame (43_frame_validator.md R176) -/

theorem getLsbD_frameData (c : CfgRegs) (buf : BitVec 48) {i : Nat} (hi : i < 32) :
    (frameData c buf).getLsbD i = buf.getLsbD (c.ckW.toNat + i) := by
  rw [frameData, BitVec.getLsbD_setWidth, decide_eq_true hi, Bool.true_and, BitVec.getLsbD_ushiftRight]

theorem getLsbD_frameCk (c : CfgRegs) (buf : BitVec 48) {i : Nat} (hi : i < 16) :
    (frameCk c buf).getLsbD i = (decide (i < c.ckW.toNat) && buf.getLsbD i) := by
  rw [frameCk, BitVec.getLsbD_and, BitVec.getLsbD_setWidth, getLsbD_ckMask, decide_eq_true hi, Bool.true_and,
    Bool.true_and, Bool.and_comm]

section FlippedBit
variable {c : CfgRegs} {j : Nat}

theorem frameData_xor_twoPow_of_lt (hj : j < c.ckW.toNat) (buf : BitVec 48) :
    frameData c (buf ^^^ BitVec.twoPow 48 j) = frameData c buf := by
  apply BitVec.eq_of_getLsbD_eq
  intro i hi
  have hne : j ≠ c.ckW.toNat + i := by omega
  simp [getLsbD_frameData c _ hi, BitVec.getLsbD_twoPow, hne]

theorem frameData_xor_twoPow_of_ge {i : Nat} (hi : i < 32) (hw : c.ckW.toNat ≤ 16) (buf : BitVec 48) :
    frameData c (buf ^^^ BitVec.twoPow 48 (c.ckW.toNat + i)) = frameData c buf ^^^ BitVec.twoPow 32 i := by
  apply BitVec.eq_of_getLsbD_eq
  intro k hk
  have hlt : c.ckW.toNat + i < 48 := by omega
  simp [getLsbD_frameData c _ hk, BitVec.getLsbD_twoPow, hlt, hi]

theorem frameCk_xor_twoPow_of_ge (hj : c.ckW.toNat ≤ j) (buf : BitVec 48) :
    frameCk c (buf ^^^ BitVec.twoPow 48 j) = frameCk c buf := by
  apply BitVec.eq_of_getLsbD_eq
  intro i hi
  by_cases hlt : i < c.ckW.toNat
  · have hne : j ≠ i := by omega
    simp [getLsbD_frameCk c _ hi, BitVec.getLsbD_twoPow, hne]
  · simp [getLsbD_frameCk c _ hi, hlt]

theorem frameCk_xor_twoPow_ne (hj : j < c.ckW.toNat) (hw : c.ckW.toNat ≤ 16) (buf : BitVec 48) :
    frameCk c (buf ^^^ BitVec.twoPow 48 j) ≠ frameCk c buf := by
  intro h
  have hbit := congrArg (·.getLsbD j) h
  have hlt : j < 48 := by omega
  simp [getLsbD_frameCk c _ (hj.trans_le hw), hj, hlt] at hbit

end FlippedBit

/-- Settles O39: a flipped data bit changes the computed checksum only, a flipped checksum bit the received one only. -/
theorem singleBitErrorIsAlwaysRejected : Obligations.SingleBitErrorIsAlwaysRejected := by
  intro s hvalid
  obtain ⟨-, -, -, -, -, ⟨-, hw⟩, -⟩ := (s.cfg.valid_iff _).1 hvalid
  refine ⟨fun data i hi => crc_xor_twoPow_ne hvalid data hi, fun buf j hj haccepted => validate_of_rejected ?_⟩
  by_cases hck : j < s.cfg.ckW.toNat
  · rw [frameData_xor_twoPow_of_lt hck, haccepted]
    exact (frameCk_xor_twoPow_ne hck hw buf).symm
  · obtain ⟨i, rfl⟩ := Nat.exists_eq_add_of_le (Nat.le_of_not_lt hck)
    have hi : i < 32 := by omega
    rw [frameData_xor_twoPow_of_ge hi hw, frameCk_xor_twoPow_of_ge (Nat.le_add_right _ _), ← haccepted]
    exact crc_xor_twoPow_ne hvalid _ hi

end Sys2Proof.Machine

namespace Sys2Proof.Machine

/-! ### WR_CTRL, part by part (44_host_ops.md R201) -/

/-- What a disable followed by an enable restarts: the detector, the timer and the recoverer. -/
def State.datapath (s : State) : EnergyDetector × PulseTimer × BitRecoverer := (s.ed, s.pt, s.br)

/-- The datapath as Restart leaves it (10_state.md R50). -/
def datapathReset : EnergyDetector × PulseTimer × BitRecoverer :=
  (EnergyDetector.reset, PulseTimer.reset, BitRecoverer.reset)

theorem State.datapath_eq_iff (s : State) (ed : EnergyDetector) (pt : PulseTimer) (br : BitRecoverer) :
    s.datapath = (ed, pt, br) ↔ s.ed = ed ∧ s.pt = pt ∧ s.br = br := by simp [State.datapath]

section WriteControlParts
variable (b : Bool) (s : State)

@[simp] theorem softResetIf_irqEn : (softResetIf b s).irqEn = s.irqEn := by cases b <;> rfl
@[simp] theorem softResetIf_cfgErr : (softResetIf b s).cfgErr = (s.cfgErr && !b) := by cases b <;> simp [softResetIf]
@[simp] theorem softResetIf_datapath : (softResetIf b s).datapath = if b then datapathReset else s.datapath := by
  cases b <;> rfl

@[simp] theorem clearCountersIf_irqEn : (clearCountersIf b s).irqEn = s.irqEn := by cases b <;> rfl
@[simp] theorem clearCountersIf_cfgErr : (clearCountersIf b s).cfgErr = s.cfgErr := by cases b <;> rfl
@[simp] theorem clearCountersIf_datapath : (clearCountersIf b s).datapath = s.datapath := by cases b <;> rfl

@[simp] theorem setIrqEn_datapath : (setIrqEn b s).datapath = s.datapath := rfl

@[simp] theorem setEnable_irqEn : (setEnable b s).irqEn = s.irqEn := by
  rcases setEnable_cases b s with ⟨-, h⟩ | ⟨-, -, h⟩ | ⟨-, -, -, h⟩ | ⟨-, -, -, h⟩ <;> simp [h]

/-- CFG_ERR after the enable part: set by an enable that CfgValid refuses. -/
@[simp] theorem setEnable_cfgErr :
    (setEnable b s).cfgErr = (s.cfgErr || (b && !s.enable && !s.cfg.valid s.params)) := by
  rcases setEnable_cases b s with ⟨rfl, h⟩ | ⟨rfl, he, h⟩ | ⟨rfl, he, hv, h⟩ | ⟨rfl, he, hv, h⟩ <;> simp [*]

/-- The datapath after the enable part: restarted by an enable that succeeds. -/
@[simp] theorem setEnable_datapath :
    (setEnable b s).datapath = if b && !s.enable && s.cfg.valid s.params then datapathReset else s.datapath := by
  rcases setEnable_cases b s with ⟨rfl, h⟩ | ⟨rfl, he, h⟩ | ⟨rfl, he, hv, h⟩ | ⟨rfl, he, hv, h⟩
  case inr.inr.inl => rw [h, he, hv]; rfl
  all_goals simp [State.datapath, *]

end WriteControlParts

section WriteControl
variable (v : Word) (s : State)

theorem afterWrCtrl_irqEn : (afterWrCtrl v s).irqEn = v.getLsbD 3 := by simp [afterWrCtrl]

theorem afterWrCtrl_cfgErr :
    (afterWrCtrl v s).cfgErr =
      ((s.cfgErr && !v.getLsbD 1) || (v.getLsbD 0 && !s.enable && !s.cfg.valid s.params)) := by simp [afterWrCtrl]

/-- WR_CTRL resets the datapath by SOFT_RESET and by a successful enable. -/
theorem afterWrCtrl_datapath :
    (afterWrCtrl v s).datapath =
      if v.getLsbD 1 || (v.getLsbD 0 && !s.enable && s.cfg.valid s.params) then datapathReset else s.datapath := by
  cases h : v[1] <;> simp [afterWrCtrl, h]

end WriteControl

/-- Settles O48: field by field, `afterWrCtrl_datapath` for the two clauses on the datapath. -/
theorem writeControl : Obligations.WriteControl := by
  intro s v
  obtain ⟨hparams, hcfg, hindex, hinputs, hlog⟩ := afterWrCtrl_frame v s
  have hdatapath := afterWrCtrl_datapath v s
  refine ⟨afterWrCtrl v s, execWrCtrl_eq v s, afterWrCtrl_irqEn v s, afterWrCtrl_enable s v, afterWrCtrl_cfgErr v s,
    afterWrCtrl_out s v, ?_, fun hreset => ?_, fun hkeep => ?_, hcfg, hparams, hindex, hinputs, hlog⟩
  · rw [afterWrCtrl_cnt]
    cases v.getLsbD 1 <;> cases v.getLsbD 2 <;> rfl
  · rw [if_pos hreset] at hdatapath
    exact (State.datapath_eq_iff ..).1 hdatapath
  · rw [if_neg (Bool.eq_false_iff.1 hkeep)] at hdatapath
    exact (State.datapath_eq_iff ..).1 hdatapath

/-! ### The rule of the configuration registers (44_host_ops.md R205) -/

/-- A configuration register shares no bit with another register. -/
theorem regRead_setReg_eq_ite {idx : BitVec 4} (h : isCfgIndex idx) (v : Word) (s : State) (idx' : BitVec 4) :
    State.regRead idx' { s with cfg := s.cfg.setReg idx v } =
      if idx' = idx then State.regRead idx { s with cfg := s.cfg.setReg idx v } else s.regRead idx' := by
  obtain ⟨n⟩ := idx'
  rcases isCfgIndex_cases h with rfl | rfl | rfl | rfl | rfl | rfl | rfl | rfl <;> fin_cases n <;> rfl

/-- Settles O51: the written configuration is `CfgRegs.setReg`, by `regRead_setReg` at its own index and
`regRead_setReg_eq_ite` at every other. -/
theorem configurationWriteRule : Obligations.ConfigurationWriteRule := by
  intro s idx v hidx
  have hwrite := exec_writeInstr_of_cfgIndex hidx v s
  refine ⟨fun he => ?_, fun he => ⟨s.cfg.setReg idx v, ?_, regRead_setReg hidx v s, fun idx' hne => ?_⟩,
    exec_readInstr_of_cfgIndex hidx s⟩
  · rw [hwrite, writeCfg_of_enabled he]
  · rw [hwrite, writeCfg_of_disabled he]
  · rw [regRead_setReg_eq_ite hidx, if_neg hne]

/-- Settles O50: each write is `WR_CFG` of its own field setter. -/
theorem configurationWritesWhileDisabled : Obligations.ConfigurationWritesWhileDisabled := by
  intro s v he
  have hwrite (set : CfgRegs → CfgRegs) :
      (.next (writeCfg set s) : Host.Outcome State Fault Refusal) = .next { s with cfg := set s.cfg } :=
    congrArg _ (writeCfg_of_disabled he set)
  exact ⟨hwrite (.setEdCfg v), hwrite (.setPtCfg v), hwrite (.setBrNom v), hwrite (.setBrCfg v), hwrite (.setPrePat v),
    hwrite (.setCkCfg v), hwrite (.setCkPoly v), hwrite (.setCkXor v)⟩

/-! ### The other writes (44_host_ops.md R204, R223 to R233) and the frame of all of them (R200) -/

/-- Settles O49: `clearCfgErr_eq` is the write without its case split. -/
theorem writeStatus : Obligations.WriteStatus := fun s v =>
  congrArg Host.Outcome.next (clearCfgErr_eq (v.getLsbD 3) s)

/-- Settles O54: the arms of the six writes answer the state they are given. -/
theorem writesToReadOnlyRegisters : Obligations.WritesToReadOnlyRegisters := fun _ _ =>
  ⟨rfl, rfl, rfl, rfl, rfl, rfl⟩

@[simp] theorem writeCfg_irqEn (set : CfgRegs → CfgRegs) (s : State) : (writeCfg set s).irqEn = s.irqEn := by
  rw [writeCfg_eq]

@[simp] theorem writeCfg_sampleIndex (set : CfgRegs → CfgRegs) (s : State) :
    (writeCfg set s).sampleIndex = s.sampleIndex := by
  rw [writeCfg_eq]

/-- Settles O56: by the effect of the operation, of which only a beat and a write of CTRL reach the datapath. -/
theorem onlyBeatsAndControlTouchTheDatapath : Obligations.OnlyBeatsAndControlTouchTheDatapath := by
  intro i s t hexec hbeat
  cases execEffect_of_exec hexec with
  | beat a b => exact absurd rfl (hbeat a b)
  | wrCtrl v =>
    obtain ⟨-, -, hindex, -⟩ := afterWrCtrl_frame v s
    exact ⟨hindex, fun hctrl => absurd rfl (hctrl v)⟩
  | cfgWrite i set => simp
  | wrStatus | rdOutFrame | read | nothing => exact ⟨rfl, fun _ => ⟨rfl, rfl, rfl, rfl, rfl, rfl, rfl, rfl⟩⟩

/-! ### The fields of a read word (10_state.md R23)

A register as read is its fields one above the other, so a field is reached by one `extractLsb'_append_above` for each
field below it. -/

section ReadWords
open BitVec (extractLsb'_append_eq_left extractLsb'_append_eq_right)

theorem extractLsb'_append_above {v w start len : Nat} {hi : BitVec v} {lo : BitVec w} {f : BitVec len}
    (hle : w ≤ start) (h : hi.extractLsb' (start - w) len = f) : (hi ++ lo).extractLsb' start len = f :=
  (BitVec.extractLsb'_append_eq_of_le hle).trans h

theorem getLsbD_of_extractLsb'_eq_bit {n i : Nat} {x : BitVec n} {b : Bool} (h : x.extractLsb' i 1 = bit b) :
    x.getLsbD i = b :=
  BitVec.ofBool_eq_iff_eq.1 ((bit_getLsbD x i).trans h)

section ControlFields
variable (s : State)

theorem ctrl_enable : s.ctrl.getLsbD 0 = s.enable :=
  getLsbD_of_extractLsb'_eq_bit extractLsb'_append_eq_right

theorem ctrl_bit1 : s.ctrl.getLsbD 1 = false := by
  apply getLsbD_of_extractLsb'_eq_bit
  refine extractLsb'_append_above (by decide) ?_
  exact extractLsb'_append_eq_right

theorem ctrl_bit2 : s.ctrl.getLsbD 2 = false := by
  apply getLsbD_of_extractLsb'_eq_bit
  iterate 2 refine extractLsb'_append_above (by decide) ?_
  exact extractLsb'_append_eq_right

theorem ctrl_irqEn : s.ctrl.getLsbD 3 = s.irqEn := by
  apply getLsbD_of_extractLsb'_eq_bit
  iterate 3 refine extractLsb'_append_above (by decide) ?_
  exact extractLsb'_append_eq_right

theorem ctrl_reserved : s.ctrl.extractLsb' 4 28 = 0 := by
  iterate 3 refine extractLsb'_append_above (by decide) ?_
  exact extractLsb'_append_eq_left

end ControlFields

section StatusFields
variable (s : State)

theorem status_outValid : s.status.getLsbD 2 = s.out.valid := by
  apply getLsbD_of_extractLsb'_eq_bit
  refine extractLsb'_append_above (by decide) ?_
  exact extractLsb'_append_eq_right

theorem status_cfgErr : s.status.getLsbD 3 = s.cfgErr := by
  apply getLsbD_of_extractLsb'_eq_bit
  iterate 2 refine extractLsb'_append_above (by decide) ?_
  exact extractLsb'_append_eq_right

theorem status_carrier : s.status.getLsbD 4 = s.ed.carrier := by
  apply getLsbD_of_extractLsb'_eq_bit
  iterate 3 refine extractLsb'_append_above (by decide) ?_
  exact extractLsb'_append_eq_right

theorem status_level : s.status.getLsbD 5 = (s.pt.started && s.pt.level) := by
  apply getLsbD_of_extractLsb'_eq_bit
  iterate 4 refine extractLsb'_append_above (by decide) ?_
  exact extractLsb'_append_eq_right

theorem status_preIdx : s.status.extractLsb' 8 6 = s.br.k := by
  iterate 6 refine extractLsb'_append_above (by decide) ?_
  exact extractLsb'_append_eq_right

theorem status_bitCnt : s.status.extractLsb' 16 6 = s.br.nbits := by
  iterate 8 refine extractLsb'_append_above (by decide) ?_
  exact extractLsb'_append_eq_right

theorem status_reserved :
    s.status.extractLsb' 6 2 = 0 ∧ s.status.extractLsb' 14 2 = 0 ∧ s.status.extractLsb' 22 10 = 0 := by
  refine ⟨?_, ?_, ?_⟩
  · iterate 5 refine extractLsb'_append_above (by decide) ?_
    exact extractLsb'_append_eq_right
  · iterate 7 refine extractLsb'_append_above (by decide) ?_
    exact extractLsb'_append_eq_right
  · iterate 8 refine extractLsb'_append_above (by decide) ?_
    exact extractLsb'_append_eq_left

end StatusFields

/-- Settles O43: the lemmas above are the fields, and the last three clauses are `State.RecovererInv` through the code
of BR_STATE. -/
theorem controlAndStatusReads : Obligations.ControlAndStatusReads := by
  intro s
  obtain ⟨hres6, hres14, hres22⟩ := status_reserved s
  refine ⟨⟨s.ctrl, rfl, ctrl_enable s, ctrl_bit1 s, ctrl_bit2 s, ctrl_irqEn s, ctrl_reserved s⟩, s.status, rfl,
    status_brState s, status_outValid s, status_cfgErr s, status_carrier s, status_level s, hres6, status_preIdx s,
    hres14, status_bitCnt s, hres22, fun hinv => ?_⟩
  obtain ⟨-, -, -, -, hready, -, hk, -, -, hnbits, -⟩ := hinv
  rw [status_brState, status_preIdx, status_bitCnt]
  exact ⟨mt (BrState.code_eq_three_iff _).1 hready, fun hcode => hk (mt (congrArg BrState.code) hcode),
    fun hcode => hnbits (mt (congrArg BrState.code) hcode)⟩

/-! ### The configuration, result and counter reads (44_host_ops.md R206 to R232) -/

theorem brCfg_fields (c : CfgRegs) :
    c.brCfg.extractLsb' 0 8 = c.tol ∧ c.brCfg.getLsbD 8 = c.shortBit ∧ c.brCfg.extractLsb' 9 7 = 0 ∧
      c.brCfg.extractLsb' 16 6 = c.preLen ∧ c.brCfg.extractLsb' 22 10 = 0 := by
  refine ⟨extractLsb'_append_eq_right, getLsbD_of_extractLsb'_eq_bit ?_, ?_, ?_, ?_⟩
  · refine extractLsb'_append_above (by decide) ?_
    exact extractLsb'_append_eq_right
  · iterate 2 refine extractLsb'_append_above (by decide) ?_
    exact extractLsb'_append_eq_right
  · iterate 3 refine extractLsb'_append_above (by decide) ?_
    exact extractLsb'_append_eq_right
  · iterate 3 refine extractLsb'_append_above (by decide) ?_
    exact extractLsb'_append_eq_left

/-- Settles O44: every word but that of BR_CFG is one field above another. -/
theorem configurationReads : Obligations.ConfigurationReads := fun s =>
  ⟨⟨s.cfg.edCfg, rfl, extractLsb'_append_eq_right, extractLsb'_append_eq_left⟩,
    ⟨s.cfg.ptCfg, rfl, extractLsb'_append_eq_right, extractLsb'_append_eq_left⟩,
    ⟨s.cfg.brNom, rfl, extractLsb'_append_eq_right, extractLsb'_append_eq_left⟩,
    ⟨s.cfg.brCfg, rfl, brCfg_fields s.cfg⟩, rfl,
    ⟨s.cfg.ckCfg, rfl, extractLsb'_append_eq_right, extractLsb'_append_eq_left⟩,
    ⟨s.cfg.ckPolyReg, rfl, extractLsb'_append_eq_right, extractLsb'_append_eq_left⟩,
    s.cfg.ckXorReg, rfl, extractLsb'_append_eq_right, extractLsb'_append_eq_left⟩

theorem outAux_fields (s : State) :
    s.outAux.extractLsb' 0 16 = s.out.ck ∧ s.outAux.extractLsb' 16 15 = 0 ∧ s.outAux.getLsbD 31 = s.out.valid := by
  refine ⟨extractLsb'_append_eq_right, ?_, getLsbD_of_extractLsb'_eq_bit ?_⟩ <;>
    refine extractLsb'_append_above (by decide) ?_
  · exact extractLsb'_append_eq_right
  · exact extractLsb'_append_eq_left

/-- Settles O45: the read of OUT_FRAME is `consumeFrame` after the response, that of OUT_AUX the response alone. -/
theorem resultReads : Obligations.ResultReads := fun s =>
  ⟨⟨s.outFrame, rfl, extractLsb'_append_eq_left, extractLsb'_append_eq_right⟩,
    s.outAux, rfl, outAux_fields s⟩

/-- Settles O46: the counter reads are the rows 12 to 15 of `exec_readInstr`. -/
theorem counterReads : Obligations.CounterReads := fun s =>
  ⟨exec_readInstr 12 s, exec_readInstr 13 s, exec_readInstr 14 s, exec_readInstr 15 s⟩

end ReadWords

end Sys2Proof.Machine

namespace Sys2Proof.Machine

/-! ### Every step completes (60_exceptions.md R240) -/

theorem step_completes (s : State) : ∃ t, step s = .next t := by
  rcases step_cases s with ⟨rest, -, h⟩ | ⟨rest, -, h⟩ | ⟨w, rest, -, -, h⟩ | ⟨w, rest, -, -, h⟩ |
      ⟨w, rest, i, -, -, h⟩
  case inr.inr.inr.inr =>
    obtain ⟨t, hexec, -⟩ := exec_completes i (withInputs rest s)
    exact ⟨t, h.trans hexec⟩
  all_goals exact ⟨_, h⟩

/-- Settles O9: `step_completes`, and `step_params` for the build parameters. -/
theorem everyStepCompletes : Obligations.EveryStepCompletes := by
  intro s
  obtain ⟨t, hstep⟩ := step_completes s
  exact ⟨t, hstep, step_params hstep⟩

/-! ### The events of one beat (60_exceptions.md R241) -/

theorem execSmp_atMostOneEvent {i q : Int} {s t : State} (hexec : exec (.smp i q) s = .next t) :
    AtMostOneEvent s t := by
  cases he : s.enable with
  | false =>
    obtain rfl := Host.Outcome.next.inj ((execSmp_of_disabled he i q).symm.trans hexec)
    exact .inl ⟨rfl, rfl⟩
  | true =>
    obtain rfl := Host.Outcome.next.inj ((execSmp_of_enabled he i q).symm.trans hexec)
    exact acceptBeat_atMostOneEvent i q s

/-- Settles O57: `execSmp_atMostOneEvent`, the overwrite written out by `Counters.countOk_eq`. -/
theorem atMostOneEventInABeat : Obligations.AtMostOneEventInABeat := by
  intro s i q
  obtain ⟨t, hexec, -⟩ := exec_completes (.smp i q) s
  refine ⟨t, hexec, ?_⟩
  rw [← Counters.countOk_eq]
  exact execSmp_atMostOneEvent hexec

/-- The frame that an event counts as accepted is unread after it. -/
theorem AtMostOneEvent.valid_of_ok_ne {s t : State} (h : AtMostOneEvent s t) (hok : t.cnt.ok ≠ s.cnt.ok) :
    t.out.valid = true := by
  rcases h with ⟨hcnt, -⟩ | ⟨hcnt, -⟩ | ⟨hcnt, -⟩ | ⟨-, hvalid⟩
  case inr.inr.inr => exact hvalid
  all_goals exact absurd (hcnt ▸ rfl) hok

/-- No overwrite is counted while no frame is unread. -/
theorem AtMostOneEvent.ovwr_of_consumed {s t : State} (h : AtMostOneEvent s t) (hread : s.out.valid = false) :
    t.cnt.ovwr = s.cnt.ovwr := by
  rcases h with ⟨hcnt, -⟩ | ⟨hcnt, -⟩ | ⟨hcnt, -⟩ | ⟨hcnt, -⟩
  case inr.inr.inr => rw [hcnt, hread]; rfl
  all_goals exact hcnt ▸ rfl

/-! ### A host operation and a beat in one clock (60_exceptions.md R244) -/

section SameClock
variable {s t u : State} {h : HostAccess} {b : BeatWord} {rest : List ClockInput}
  (hin : s.inputs = .clock (some h) (some b) :: rest) (hst : step s = .next t) (htu : step t = .next u)
include hin hst

/-- The first step performs the access, with the beat alone in its clock still to come. -/
theorem exec_access_of_sameClock {i : Instr} (hd : decodeHost h.cmd h.data = .op i) :
    exec i (withInputs (.clock none (some b) :: rest) s) = .next t :=
  (step_of_decode (w := .host h.cmd h.data) (hin ▸ nextOp_host_beat h b rest) hd).symm.trans hst

include htu

/-- The second step performs the beat. -/
theorem exec_beat_of_sameClock : ∃ i q, exec (.smp i q) (withInputs rest t) = .next u := by
  obtain ⟨t', hst', hinputs⟩ := step_of_word (hin ▸ nextOp_host_beat h b rest)
  obtain rfl := Host.Outcome.next.inj (hst'.symm.trans hst)
  exact ⟨_, _, (step_of_decode (w := .beat b) (hinputs ▸ nextOp_beat b rest) rfl).symm.trans htu⟩

/-- The read returns and consumes the frame before the beat, so the beat finds none unread. -/
theorem sameClock_read (hcmd : h.cmd = 0x0A) :
    t.readLog = s.outFrame :: s.readLog ∧ (u.cnt.ok ≠ s.cnt.ok → u.out.valid = true) ∧ u.cnt.ovwr = s.cnt.ovwr := by
  obtain ⟨i, q, hbeat⟩ := exec_beat_of_sameClock hin hst htu
  have hread := exec_access_of_sameClock hin hst (i := .rdOutFrame) (by rw [hcmd]; rfl)
  obtain rfl := Host.Outcome.next.inj hread
  have hevent := execSmp_atMostOneEvent hbeat
  exact ⟨rfl, hevent.valid_of_ok_ne, hevent.ovwr_of_consumed rfl⟩

/-- The write disables the core, so the beat finds it disabled. -/
theorem sameClock_disable (hcmd : h.cmd = 0x80) (hbit : h.data.getLsbD 0 = false) :
    t.enable = false ∧ u = withInputs rest t := by
  obtain ⟨i, q, hbeat⟩ := exec_beat_of_sameClock hin hst htu
  have hwrite := exec_access_of_sameClock hin hst (i := .wrCtrl h.data) (by rw [hcmd]; rfl)
  obtain rfl := Host.Outcome.next.inj ((execWrCtrl_eq ..).symm.trans hwrite)
  have hdisabled : (afterWrCtrl h.data (withInputs (.clock none (some b) :: rest) s)).enable = false := by
    rw [afterWrCtrl_enable, hbit, Bool.false_and]
  exact ⟨hdisabled, Host.Outcome.next.inj (hbeat.symm.trans (execSmp_of_disabled (s := withInputs rest _) hdisabled i q))⟩

end SameClock

/-- Settles O8: `sameClock_read` and `sameClock_disable`. -/
theorem sameClockReadAndDisable : Obligations.SameClockReadAndDisable :=
  fun _ _ _ _ _ _ hin hst htu => ⟨sameClock_read hin hst htu, sameClock_disable hin hst htu⟩

end Sys2Proof.Machine

namespace Sys2Proof.Machine

/-! ### The order of configuration writes (70_reset_and_hazards.md R262) -/

/-- Each field of the configuration belongs to one register: a write of that register sets it to a part of the written
word, and a write of any other leaves it as it was. -/
theorem CfgRegs.setReg_eq_ite (idx : BitVec 4) (v : Word) (c : CfgRegs) :
    c.setReg idx v =
      { thrFactor := if idx = 2 then field v 0 16 else c.thrFactor
        edWin := if idx = 2 then field v 16 16 else c.edWin
        minPulse := if idx = 3 then field v 0 16 else c.minPulse
        shortNom := if idx = 4 then field v 0 16 else c.shortNom
        longNom := if idx = 4 then field v 16 16 else c.longNom
        tol := if idx = 5 then field v 0 8 else c.tol
        shortBit := if idx = 5 then v.getLsbD 8 else c.shortBit
        preLen := if idx = 5 then field v 16 6 else c.preLen
        prePat := if idx = 6 then v else c.prePat
        ckW := if idx = 7 then field v 0 5 else c.ckW
        ckPoly := if idx = 8 then field v 0 16 else c.ckPoly
        ckInit := if idx = 8 then field v 16 16 else c.ckInit
        ckXorout := if idx = 9 then field v 0 16 else c.ckXorout } := by
  obtain ⟨n⟩ := idx
  fin_cases n <;> rfl

theorem CfgRegs.setReg_comm {idx idx' : BitVec 4} (hne : idx ≠ idx') (v v' : Word) (c : CfgRegs) :
    (c.setReg idx v).setReg idx' v' = (c.setReg idx' v').setReg idx v := by
  have hexcl (k : BitVec 4) (h' : idx' = k) : ¬idx = k := fun h => hne (h.trans h'.symm)
  simp only [setReg_eq_ite, CfgRegs.mk.injEq]
  and_intros <;> exact ite_ite_comm _ _ _ _ (hexcl _)

/-- Two configuration writes commute when their effects on the configuration do: ENABLE, which decides between effect
and CFG_ERR, is the same for both. -/
theorem writeCfg_comm {set set' : CfgRegs → CfgRegs} {s : State} (hcomm : set' (set s.cfg) = set (set' s.cfg)) :
    writeCfg set' (writeCfg set s) = writeCfg set (writeCfg set' s) := by
  rcases Bool.eq_false_or_eq_true s.enable with he | he
  · simp [writeCfg_of_enabled, he]
  · simp [writeCfg_of_disabled, he, hcomm]

/-- Settles O53: different registers share no field (`CfgRegs.setReg_comm`), and `WR_CFG` adds nothing that depends on
the order (`writeCfg_comm`). -/
theorem configurationWritesCommute : Obligations.ConfigurationWritesCommute := by
  intro s idx idx' v v' hidx hidx' hne
  have hcomm := writeCfg_comm (s := s) (CfgRegs.setReg_comm hne v v' s.cfg)
  refine ⟨_, _, _, exec_writeInstr_of_cfgIndex hidx v s, exec_writeInstr_of_cfgIndex hidx' v' _,
    exec_writeInstr_of_cfgIndex hidx' v' s, ?_⟩
  rw [exec_writeInstr_of_cfgIndex hidx, hcomm]

/-! ### The hard reset (70_reset_and_hazards.md R260) -/

theorem step_of_reset {s : State} {rest : List ClockInput} (hin : s.inputs = .reset :: rest) :
    step s = .next (hardReset (withInputs rest s)) := by
  simp [step, hin, nextOp_reset]

theorem hardReset_regRead (s : State) (idx : BitVec 4) : (hardReset s).regRead idx = 0 :=
  resetOf_regRead s.params idx

/-- Settles O11: `hardReset_regRead` for the registers; every other piece of state is a field of `State.resetOf`. -/
theorem hardResetClearsEverything : Obligations.HardResetClearsEverything := by
  intro s rest hin
  refine ⟨_, step_of_reset hin, hardReset_regRead _, ?_⟩
  and_intros <;> rfl

/-- Settles O12: the fields that `hardReset` takes from the state before it. -/
theorem hardResetKeepsThePorts : Obligations.HardResetKeepsThePorts :=
  fun _ _ hin => ⟨_, step_of_reset hin, hardReset_params _, hardReset_inputs _, hardReset_readLog _⟩

end Sys2Proof.Machine
